-- ==== Sys2Proof/Word.lean ====
section
/-! DEFINITION. The word types of DFC (00_scope R11, R13): a byte, and the 16 and 32 bit values the wire formats are built of. -/

namespace Sys2Proof

/-- 00_scope R11: a byte is 8 bits. -/
abbrev Byte := BitVec 8

/-- A 16-bit value: a command word (30_encoding R96), a block-header field (R89), the checksum (43_crc16 R155). -/
abbrev Word16 := BitVec 16

/-- A 32-bit value: the control word (30_encoding R86). -/
abbrev Word32 := BitVec 32

end Sys2Proof
end

