-- ==== Sys2Proof/Config.lean ====
section
/-! DEFINITION. The implementation parameters of DFC (00_scope R8, R9) as one record, their default values, the
constants the source fixes (R7), and the one free value of the model (45_correlator R183, 93 U6). -/

namespace Sys2Proof

/-- 00_scope R7: the largest datagram, `CW_LEN + PLEN_MAX`. -/
abbrev frameMax : Nat := 259

/-- 00_scope R7: the largest payload of one frame. -/
abbrev plenMax : Nat := 255

/-- 00_scope R9, 45_correlator R183: which of several matching slots answers. -/
inductive MatchPolicy where
  | lowestSlot
  | any
deriving DecidableEq, Repr

/-- The parameters of 00_scope R8 and R9. They are fixed before reset and no transaction changes them
(10_state R25, 70_reset R234). Statements are made about every value of this record (log 2). -/
structure Config where
  wireCap : Nat
  payCap : Nat
  codeCon : BitVec 3
  codeNon : BitVec 3
  codeAck : BitVec 3
  codeRst : BitVec 3
  codeBack : BitVec 3
  crcPoly : Word16
  crcInit : Word16
  crcRefin : Bool
  crcRefout : Bool
  crcXorout : Word16
  hasCorr : Bool
  camDepth : Nat
  protoW : Nat
  pipeW : Nat
  addrW : Nat
  tagW : Nat
  camMatchPolicy : MatchPolicy
  tokReset : BitVec 10
deriving DecidableEq, Repr

/-- The defaults of 00_scope R8 and R9. `hasCorr` has no default in R9; the vectors of 95_test_vectors take it true
(DESIGN CHOICE, unsafe, log 2). The code values and the checksum parameters are the spec's general-knowledge defaults
(93 G1, G4). -/
def Config.default : Config where
  wireCap := 259
  payCap := 255
  codeCon := 0
  codeNon := 1
  codeAck := 2
  codeRst := 3
  codeBack := 4
  crcPoly := 0x8005
  crcInit := 0xFFFF
  crcRefin := true
  crcRefout := true
  crcXorout := 0x0000
  hasCorr := true
  camDepth := 16
  protoW := 8
  pipeW := 64
  addrW := 64
  tagW := 16
  camMatchPolicy := .lowestSlot
  tokReset := 0

/-- How many slots the table has: `CAM_DEPTH`, and none when the correlator is absent (10_state R48, R50). -/
def Config.slots (c : Config) : Nat := if c.hasCorr then c.camDepth else 0

/-- The free value of `CAM_MATCH_POLICY = ANY` (45_correlator R183, 93 U6): the n-th free choice among the matching
slots. It has no body, so nothing can be proved about which slot it picks (DESIGN CHOICE, safe, log 5). -/
opaque Config.freeSlot : Nat → Nat

end Sys2Proof
end

