-- ==== Sys2Proof/Syntax.lean ====
section
/-! DEFINITION. The syntax of DFC: the 25 commands and the five control words of spec/opcode_table.json (`Instr`), the
records of the wire formats (30_encoding R86, R89), the registers (10_state R26), and the host port's transactions and
replies (10_state R21). -/

namespace Sys2Proof

/-- The five fields of a control word, each at its width (30_encoding R86). -/
structure ControlWord where
  code : BitVec 3
  bf : BitVec 1
  rid : BitVec 10
  token : BitVec 10
  plen : BitVec 8
deriving DecidableEq, Repr

/-- The three fields of a block header (30_encoding R89). -/
structure BlockHeader where
  crc : Word16
  total : Word16
  offset : Word16
deriving DecidableEq, Repr

/-- What a 3-bit code value is: one of the five frame codes or a reserved code (30_encoding R106). -/
inductive CodeClass where
  | con
  | non
  | ack
  | rst
  | back
  | reserved
deriving DecidableEq, Repr

/-- One constructor per row of spec/opcode_table.json. The first 25 are the commands of 30_encoding R104; a CI command
carries its 8-bit immediate (R98). The last five are the control words of the frame codes (R106, R108): the code is the
constructor, the other four fields of R86 are its operands. `DEC_AUTO` fetches these from `WIRE` (log 6). -/
inductive Instr where
  | nop
  | srst
  | encCw
  | decCw
  | encFrame
  | decFrame
  | decAuto
  | encBh
  | decBh
  | encBframe
  | decBframe
  | crcClr
  | crcUpdb (imm8 : Byte)
  | crcUpdp
  | crcGet
  | crcChk
  | encRstp (imm8 : Byte)
  | decRstp
  | encBackp
  | decBackp
  | tokAlloc
  | camIns
  | camLook
  | camTake
  | camDel (imm8 : Byte)
  | codeCon (bf : BitVec 1) (rid token : BitVec 10) (plen : BitVec 8)
  | codeNon (bf : BitVec 1) (rid token : BitVec 10) (plen : BitVec 8)
  | codeAck (bf : BitVec 1) (rid token : BitVec 10) (plen : BitVec 8)
  | codeRst (bf : BitVec 1) (rid token : BitVec 10) (plen : BitVec 8)
  | codeBack (bf : BitVec 1) (rid token : BitVec 10) (plen : BitVec 8)
deriving DecidableEq, Repr

/-- The two buffers (20_memory R60). -/
inductive Buf where
  | wire
  | pay
deriving DecidableEq, Repr

/-- The registers of the host port (10_state R26). -/
inductive Reg where
  | status
  | flags
  | fCode
  | fBf
  | fRid
  | fToken
  | fPlen
  | fCrc
  | fTotal
  | fOffset
  | wlen
  | payn
  | crcAcc
  | rErr
  | rRoute
  | tokCnt
  | kProto
  | kPipe
  | kAddr
  | kUseCode
  | kTag
  | rTag
  | rSlot
deriving DecidableEq, Repr

/-- The six kinds of host transaction (10_state R21). A register is given by its number, because the port can be asked
for a number that no register has (R23). -/
inductive Transaction where
  | regRead (number : Nat)
  | regWrite (number value : Nat)
  | load (b : Buf) (bytes : List Byte)
  | read (b : Buf)
  | cmd (w : Word16)
  | reset
deriving DecidableEq, Repr

/-- What a transaction returns to the host: `RegRead` a register's value, `Read` a buffer's bytes, the others nothing
(10_state R21). -/
inductive Reply where
  | none
  | value (v : Nat)
  | bytes (s : List Byte)
deriving DecidableEq, Repr

/-- The five correlator commands, reserved when `HAS_CORR` is false (30_encoding R112). -/
def Instr.isCorrelator : Instr → Bool
  | .nop => false
  | .srst => false
  | .encCw => false
  | .decCw => false
  | .encFrame => false
  | .decFrame => false
  | .decAuto => false
  | .encBh => false
  | .decBh => false
  | .encBframe => false
  | .decBframe => false
  | .crcClr => false
  | .crcUpdb _ => false
  | .crcUpdp => false
  | .crcGet => false
  | .crcChk => false
  | .encRstp _ => false
  | .decRstp => false
  | .encBackp => false
  | .decBackp => false
  | .tokAlloc => true
  | .camIns => true
  | .camLook => true
  | .camTake => true
  | .camDel _ => true
  | .codeCon _ _ _ _ => false
  | .codeNon _ _ _ _ => false
  | .codeAck _ _ _ _ => false
  | .codeRst _ _ _ _ => false
  | .codeBack _ _ _ _ => false

end Sys2Proof
end

