-- ==== Sys2Proof/Machine/Fields.lean ====
section
/-! DEFINITION. The pure functions of the wire formats: byte order (00_scope R14), pack and unpack of the control word
(40_control_word R124, R125) and of the block header (42_block R141), and the frame-code classifier (30_encoding R106). -/

namespace Sys2Proof.Machine

/-- `be16(v)` of 00_scope R14: most significant byte first. -/
def be16 (v : Word16) : List Byte := [v.extractLsb' 8 8, v.extractLsb' 0 8]

/-- `be32(v)` of 00_scope R14. -/
def be32 (v : Word32) : List Byte :=
  [v.extractLsb' 24 8, v.extractLsb' 16 8, v.extractLsb' 8 8, v.extractLsb' 0 8]

/-- `u16(b0, b1)` of 00_scope R14: the first byte is the most significant. -/
def u16 (b0 b1 : Byte) : Word16 := b0 ++ b1

/-- `u32(b0, b1, b2, b3)` of 00_scope R14. -/
def u32 (b0 b1 b2 b3 : Byte) : Word32 := b0 ++ b1 ++ b2 ++ b3

/-- `B[i]`. Commands use it below the length only (20_memory R80), so the value past the end is never used. -/
def byteAt (s : List Byte) (i : Nat) : Byte := s.getD i 0

/-- `B[a .. a+n-1]`, a run of `n` bytes from index `a` (20_memory R80). -/
def slice (s : List Byte) (a n : Nat) : List Byte := (s.drop a).take n

/-- The control word in the first four bytes of a datagram (20_memory R68, R73). -/
def headWord (s : List Byte) : Word32 := u32 (byteAt s 0) (byteAt s 1) (byteAt s 2) (byteAt s 3)

/-- `cw_pack` of 40_control_word R124: the fields tile the word from the most significant bit down. -/
def cwPack (c : ControlWord) : Word32 := c.code ++ c.bf ++ c.rid ++ c.token ++ c.plen

/-- `cw_unpack` of 40_control_word R125. -/
def cwUnpack (w : Word32) : ControlWord where
  code := w.extractLsb' 29 3
  bf := w.extractLsb' 28 1
  rid := w.extractLsb' 18 10
  token := w.extractLsb' 8 10
  plen := w.extractLsb' 0 8

/-- `bh_pack` of 42_block R141. -/
def bhPack (h : BlockHeader) : List Byte := be16 h.crc ++ be16 h.total ++ be16 h.offset

/-- `bh_unpack` of 42_block R141, on the first six bytes of `s`. -/
def bhUnpack (s : List Byte) : BlockHeader where
  crc := u16 (byteAt s 0) (byteAt s 1)
  total := u16 (byteAt s 2) (byteAt s 3)
  offset := u16 (byteAt s 4) (byteAt s 5)

/-- `code_class` of 30_encoding R106: the frame code whose parameter `c` equals, else reserved. -/
def codeClass (cfg : Config) (c : BitVec 3) : CodeClass :=
  if c = cfg.codeCon then .con
  else if c = cfg.codeNon then .non
  else if c = cfg.codeAck then .ack
  else if c = cfg.codeRst then .rst
  else if c = cfg.codeBack then .back
  else .reserved

/-- The reset byte an error code becomes, `imm8 | 0x80` (30_encoding R103). -/
def resetByte (imm8 : Byte) : Byte := imm8 ||| 0x80

/-- The error code in a reset byte, its low 7 bits (30_encoding R103). -/
def resetError (b : Byte) : BitVec 7 := b.extractLsb' 0 7

/-- The "error present" marker of a reset byte, its bit 7 (30_encoding R103). -/
def resetMarker (b : Byte) : Bool := b.getLsbD 7

end Sys2Proof.Machine
end

