-- ==== Sys2Proof/Machine/Crc.lean ====
section
/-! DEFINITION. The checksum functions of 43_crc16 R156 to R159, for every parameter set (00_scope R8). -/

namespace Sys2Proof.Machine

/-- `reflect16(v)` of 43_crc16 R156: bit `i` of the result is bit `15 - i` of `v`. -/
def reflect16 (v : Word16) : Word16 := v.reverse

/-- `crc_start()` of 43_crc16 R156. -/
def crcStart (c : Config) : Word16 := if c.crcRefin then reflect16 c.crcInit else c.crcInit

/-- One of the eight iterations of 43_crc16 R157 when `CRC_REFIN` is true. -/
def crcShiftRight (poly a : Word16) : Word16 :=
  if a.getLsbD 0 then (a >>> 1) ^^^ reflect16 poly else a >>> 1

/-- One of the eight iterations of 43_crc16 R157 when `CRC_REFIN` is false. -/
def crcShiftLeft (poly a : Word16) : Word16 :=
  if a.getLsbD 15 then (a <<< 1) ^^^ poly else a <<< 1

/-- `f` applied `n` times ("repeat 8 times", 43_crc16 R157). -/
def repeatTimes {α : Type} (f : α → α) : Nat → α → α
  | 0, a => a
  | n + 1, a => repeatTimes f n (f a)

/-- `crc_step(acc, b)` of 43_crc16 R157. -/
def crcStep (c : Config) (acc : Word16) (b : Byte) : Word16 :=
  if c.crcRefin then repeatTimes (crcShiftRight c.crcPoly) 8 (acc ^^^ b.setWidth 16)
  else repeatTimes (crcShiftLeft c.crcPoly) 8 (acc ^^^ (b.setWidth 16 <<< 8))

/-- The accumulator after the bytes of `s` in index order (43_crc16 R159, R162). -/
def crcFeed (c : Config) (acc : Word16) (s : List Byte) : Word16 := s.foldl (crcStep c) acc

/-- `crc_final(acc)` of 43_crc16 R158. -/
def crcFinal (c : Config) (acc : Word16) : Word16 :=
  (if c.crcRefin = c.crcRefout then acc else reflect16 acc) ^^^ c.crcXorout

/-- `crc16(data)` of 43_crc16 R159. -/
def crc16 (c : Config) (data : List Byte) : Word16 := crcFinal c (crcFeed c (crcStart c) data)

end Sys2Proof.Machine
end

