-- ==== Sys2Proof/Machine/State.lean ====
section
/-! DEFINITION. The state of DFC (10_state R25), its reasons to stop, and the state after reset (10_state R51). -/

namespace Sys2Proof.Machine

/-- The two byte buffers (20_memory R60). A buffer is a byte sequence with a length; a byte at or beyond the length does
not exist, so equal buffers are equal lists (log 7). -/
structure Memory where
  wire : List Byte
  pay : List Byte
deriving DecidableEq, Repr

/-- One entry of the correlator table (10_state R48). `proto`, `pipe`, `addr` and `tag` are numbers below two to the
power of their parameter width (log 3). -/
structure CamEntry where
  valid : Bool
  proto : Nat
  pipe : Nat
  addr : Nat
  rid : BitVec 10
  token : BitVec 10
  useCode : BitVec 1
  code : BitVec 3
  tag : Nat
deriving DecidableEq, Repr

/-- An empty slot. 10_state R48 and R51 leave every field but `valid` unspecified and unobservable; the model holds zero
(DESIGN CHOICE, safe, log 4; 70_reset R231 allows it). -/
def CamEntry.empty : CamEntry where
  valid := false
  proto := 0
  pipe := 0
  addr := 0
  rid := 0
  token := 0
  useCode := 0
  code := 0
  tag := 0

/-- The complete state of 10_state R25, the configuration it is fixed with (`cfg`, log 2), and three fields of the
model's own: the host's transactions still to be carried out (`pending`, log 1), what the last one returned (`reply`,
log 1), and the number of free choices drawn (`freeCount`, log 5). -/
structure State where
  cfg : Config
  status : BitVec 8
  flags : BitVec 4
  fCode : BitVec 3
  fBf : BitVec 1
  fRid : BitVec 10
  fToken : BitVec 10
  fPlen : BitVec 8
  fCrc : Word16
  fTotal : Word16
  fOffset : Word16
  mem : Memory
  crcAcc : Word16
  rErr : BitVec 7
  rRoute : BitVec 3
  tokCnt : BitVec 10
  kProto : Nat
  kPipe : Nat
  kAddr : Nat
  kUseCode : BitVec 1
  kTag : Nat
  rTag : Nat
  rSlot : BitVec 8
  cam : List CamEntry
  freeCount : Nat
  pending : List Transaction
  reply : Reply
deriving DecidableEq, Repr

/-- DFC stops with no fault: every failure is a value of `STATUS` and no state is unrecoverable (60_exceptions R210,
R216, R223). The type has no constructor, so no step can answer one. -/
inductive Fault where
deriving DecidableEq, Repr

/-- Why the model has no transition. Only host transactions outside the interface are refused (10_state R23, 93 U4). -/
inductive Refusal where
  /-- `exec`, for an instruction without a meaning. No arm raises it. Safe: a claim becomes unprovable, never false. -/
  | notModelled (mnemonic : String)
  /-- `RegRead` or `RegWrite` of a number not in 10_state R26. Safe: R23 gives it no meaning. -/
  | registerUnimplemented (number : Nat)
  /-- `RegWrite` of a register that 10_state R26 marks `RO`. Safe: R23 gives it no meaning. -/
  | registerReadOnly (number : Nat)
  /-- `RegRead` or `RegWrite` of a correlator register while `HAS_CORR` is false. Safe: R23 gives it no meaning. -/
  | registerAbsent (number : Nat)
  /-- `RegWrite` of a value wider than the register, which the port cannot carry (10_state R23). Safe: it cannot be
  expressed on the port. -/
  | valueTooWide (number value : Nat)
  /-- `Load` of a sequence longer than the buffer's capacity. Safe: 10_state R23 gives it no meaning. -/
  | loadTooLong (b : Buf) (length : Nat)
deriving DecidableEq, Repr

/-- The state of a DFC with the given parameters after reset: the table of 10_state R51. -/
def State.resetWith (c : Config) : State where
  cfg := c
  status := 0
  flags := 0
  fCode := 0
  fBf := 0
  fRid := 0
  fToken := 0
  fPlen := 0
  fCrc := 0
  fTotal := 0
  fOffset := 0
  mem := ⟨[], []⟩
  crcAcc := crcStart c
  rErr := 0
  rRoute := 0
  tokCnt := c.tokReset
  kProto := 0
  kPipe := 0
  kAddr := 0
  kUseCode := 0
  kTag := 0
  rTag := 0
  rSlot := 0
  cam := List.replicate c.slots CamEntry.empty
  freeCount := 0
  pending := []
  reply := .none

/-- The machine right after reset (10_state R51, 70_reset R230, R231), at the default parameters of 00_scope R8 and R9
(log 2), with no host transaction placed yet (log 1). -/
def State.reset : State := State.resetWith Config.default

end Sys2Proof.Machine
end

