-- ==== Sys2Proof/Machine/Flags.lean ====
section
/-! DEFINITION. The result flags (10_state R37): where each bit stands and how a command writes one. -/

namespace Sys2Proof.Machine

/-- The four bits of `FLAGS` (10_state R37). -/
inductive Flag where
  | crcok
  | rsvd
  | errp
  | hit
deriving DecidableEq, Repr

/-- 10_state R37, column "bit". -/
def flagBit : Flag → Nat
  | .crcok => 0
  | .rsvd => 1
  | .errp => 2
  | .hit => 3

/-- `FLAGS` with one bit written; the other three keep their values (10_state R37). -/
def withFlag (flags : BitVec 4) (f : Flag) (v : Bool) : BitVec 4 :=
  if v then flags ||| (1#4 <<< flagBit f) else flags &&& ~~~(1#4 <<< flagBit f)

/-- One bit of `FLAGS`. -/
def flagOf (flags : BitVec 4) (f : Flag) : Bool := flags.getLsbD (flagBit f)

/-- A command writes one flag (10_state R37). -/
def State.setFlag (s : State) (f : Flag) (v : Bool) : State := { s with flags := withFlag s.flags f v }

end Sys2Proof.Machine
end

