-- ==== Sys2Proof/Machine/Registers.lean ====
section
/-! DEFINITION. The register map of the host port (10_state R26): number, width, access, and which registers belong to
the correlator. -/

namespace Sys2Proof.Machine

/-- 10_state R26, column "number". -/
def regNumber : Reg → Nat
  | .status => 0x00
  | .flags => 0x01
  | .fCode => 0x02
  | .fBf => 0x03
  | .fRid => 0x04
  | .fToken => 0x05
  | .fPlen => 0x06
  | .fCrc => 0x07
  | .fTotal => 0x08
  | .fOffset => 0x09
  | .wlen => 0x0A
  | .payn => 0x0B
  | .crcAcc => 0x0C
  | .rErr => 0x0D
  | .rRoute => 0x0E
  | .tokCnt => 0x10
  | .kProto => 0x11
  | .kPipe => 0x12
  | .kAddr => 0x13
  | .kUseCode => 0x14
  | .kTag => 0x15
  | .rTag => 0x16
  | .rSlot => 0x17

/-- Every register of 10_state R26. -/
def allRegs : List Reg :=
  [.status, .flags, .fCode, .fBf, .fRid, .fToken, .fPlen, .fCrc, .fTotal, .fOffset, .wlen, .payn, .crcAcc, .rErr,
    .rRoute, .tokCnt, .kProto, .kPipe, .kAddr, .kUseCode, .kTag, .rTag, .rSlot]

/-- The register a number names; a number not listed is unimplemented (10_state R23, R26). -/
def regOfNumber (n : Nat) : Option Reg := allRegs.find? fun r => regNumber r == n

/-- Registers 0x10 to 0x17, which exist only when `HAS_CORR` is true (10_state R26). -/
def regIsCorrelator (r : Reg) : Bool := 0x10 ≤ regNumber r

/-- 10_state R26, column "host access": true for `RW`. -/
def regWritable : Reg → Bool
  | .status => false
  | .flags => false
  | .fCode => true
  | .fBf => true
  | .fRid => true
  | .fToken => true
  | .fPlen => true
  | .fCrc => true
  | .fTotal => true
  | .fOffset => true
  | .wlen => false
  | .payn => false
  | .crcAcc => true
  | .rErr => false
  | .rRoute => false
  | .tokCnt => false
  | .kProto => true
  | .kPipe => true
  | .kAddr => true
  | .kUseCode => true
  | .kTag => true
  | .rTag => false
  | .rSlot => false

/-- The least number of bits that holds the number `n` (10_state R40, R41). -/
def bitsToHold (n : Nat) : Nat := if n = 0 then 0 else Nat.log2 n + 1

/-- 10_state R26, column "width". -/
def regWidth (c : Config) : Reg → Nat
  | .status => 8
  | .flags => 4
  | .fCode => 3
  | .fBf => 1
  | .fRid => 10
  | .fToken => 10
  | .fPlen => 8
  | .fCrc => 16
  | .fTotal => 16
  | .fOffset => 16
  | .wlen => bitsToHold c.wireCap
  | .payn => bitsToHold c.payCap
  | .crcAcc => 16
  | .rErr => 7
  | .rRoute => 3
  | .tokCnt => 10
  | .kProto => c.protoW
  | .kPipe => c.pipeW
  | .kAddr => c.addrW
  | .kUseCode => 1
  | .kTag => c.tagW
  | .rTag => c.tagW
  | .rSlot => 8

/-- The capacity of a buffer (20_memory R61, R62). -/
def bufCap (c : Config) : Buf → Nat
  | .wire => c.wireCap
  | .pay => c.payCap

end Sys2Proof.Machine
end

