-- ==== Sys2Proof/Machine/Status.lean ====
section
/-! DEFINITION. The values of `STATUS` (60_exceptions R211, R212) and of `R_ROUTE` (41_frame R134). -/

namespace Sys2Proof.Machine

/-- The outcome class `ST` (60_exceptions R211). -/
inductive St where
  | ok
  | malformed
  | invalidParam
  | invalidOp
  | full
deriving DecidableEq, Repr

/-- The reason `CAUSE` (60_exceptions R212). -/
inductive Cause where
  | none
  | shortCw
  | shortFrame
  | bhNofit
  | shortBh
  | rstLen
  | backLen
  | rsvdCode
  | payShort
  | bfClear
  | badSlot
deriving DecidableEq, Repr

/-- 60_exceptions R211, column "value". -/
def stBits : St → BitVec 4
  | .ok => 0
  | .malformed => 1
  | .invalidParam => 2
  | .invalidOp => 3
  | .full => 4

/-- 60_exceptions R212, column "value". -/
def causeBits : Cause → BitVec 4
  | .none => 0
  | .shortCw => 1
  | .shortFrame => 2
  | .bhNofit => 3
  | .shortBh => 4
  | .rstLen => 5
  | .backLen => 6
  | .rsvdCode => 7
  | .payShort => 8
  | .bfClear => 9
  | .badSlot => 10

/-- `{CAUSE, ST}` (10_state R36). -/
def statusByte (st : St) (cause : Cause) : BitVec 8 := causeBits cause ++ stBits st

/-- The destinations of a decoded frame (41_frame R134). -/
inductive Route where
  | none
  | service
  | callReg
  | blockTx
  | rstFanout
  | blockRx
deriving DecidableEq, Repr

/-- 41_frame R134, column "value". -/
def routeBits : Route → BitVec 3
  | .none => 0
  | .service => 1
  | .callReg => 2
  | .blockTx => 3
  | .rstFanout => 4
  | .blockRx => 5

/-- `route_of(cls)` of 41_frame R134, for a frame with block flag 0. A reserved code never reaches it (R133). -/
def routeOf : CodeClass → Route
  | .con => .service
  | .non => .service
  | .ack => .callReg
  | .rst => .rstFanout
  | .back => .blockTx
  | .reserved => .none

end Sys2Proof.Machine
end

