-- ==== Sys2Proof/Machine/Ops.lean ====
section
/-! DEFINITION. The operations the meanings share: the two outcomes of a command (00_scope R15), the buffers (20_memory
R60, R63), the groups of field registers, and reset (10_state R51). -/

namespace Sys2Proof.Machine

/-- What a step answers. -/
abbrev StepOutcome := Host.Outcome State Fault Refusal

/-- The bytes a buffer holds. -/
def Memory.content (m : Memory) : Buf → List Byte
  | .wire => m.wire
  | .pay => m.pay

/-- One byte of a buffer; a byte at or beyond the length does not exist (20_memory R60). -/
def Memory.byte (m : Memory) (b : Buf) (i : Nat) : Option Byte := (m.content b)[i]?

/-- `B <- s`, the only store there is (20_memory R60, R80). -/
def Memory.replace (m : Memory) (b : Buf) (bytes : List Byte) : Memory :=
  match b with
  | .wire => { m with wire := bytes }
  | .pay => { m with pay := bytes }

/-- The form of the memory: each buffer is within its capacity (20_memory R60 to R62). -/
abbrev Memory.wf (c : Config) (m : Memory) : Prop := m.wire.length ≤ c.wireCap ∧ m.pay.length ≤ c.payCap

/-- `B <- s` on the state. -/
def State.setBuf (s : State) (b : Buf) (bytes : List Byte) : State := { s with mem := s.mem.replace b bytes }

/-- `STATUS <- {CAUSE = cause, ST = st}` (10_state R36). -/
def State.setStatus (s : State) (st : St) (cause : Cause) : State := { s with status := statusByte st cause }

/-- `done` of 00_scope R15, on the state that holds the command's writes. -/
def done (s : State) : StepOutcome := .next (s.setStatus .ok .none)

/-- `fail(st, cause)` of 00_scope R15 and 60_exceptions R221, on the state at the command's start: only `STATUS` changes.
This is all DFC has of taking an exception; nothing is entered and nothing returns (60_exceptions R223). -/
def fail (s : State) (st : St) (cause : Cause) : StepOutcome := .next (s.setStatus st cause)

/-- What a reserved command word does (30_encoding R107, R109). -/
def reservedEncoding (s : State) : StepOutcome := fail s .invalidOp .none

/-- A correlator command without a correlator is a reserved encoding (30_encoding R112); the decoder answers so already,
and the meaning says it once more so that it never acts on state that does not exist (10_state R50). -/
def withCorrelator (s : State) (body : StepOutcome) : StepOutcome :=
  if s.cfg.hasCorr then body else reservedEncoding s

/-- The control word held in the five field registers (41_frame R130). -/
def State.controlWord (s : State) : ControlWord := ⟨s.fCode, s.fBf, s.fRid, s.fToken, s.fPlen⟩

/-- `(F_CODE, F_BF, F_RID, F_TOKEN, F_PLEN) <- cw`. -/
def State.setControlWord (s : State) (cw : ControlWord) : State :=
  { s with fCode := cw.code, fBf := cw.bf, fRid := cw.rid, fToken := cw.token, fPlen := cw.plen }

/-- The block header held in the three block-header registers (42_block R140). -/
def State.blockHeader (s : State) : BlockHeader := ⟨s.fCrc, s.fTotal, s.fOffset⟩

/-- `(F_CRC, F_TOTAL, F_OFFSET) <- h`. -/
def State.setBlockHeader (s : State) (h : BlockHeader) : State :=
  { s with fCrc := h.crc, fTotal := h.total, fOffset := h.offset }

/-- Every piece of DFC's state at its reset value (10_state R51, 46_system R201). The configuration stays (70_reset R234);
so do the model's own fields, which are the host's and not DFC's (logs 1, 5). -/
def State.resetState (s : State) : State :=
  { State.resetWith s.cfg with freeCount := s.freeCount, pending := s.pending, reply := s.reply }

end Sys2Proof.Machine
end

