-- ==== Sys2Proof/Machine/ControlWord.lean ====
section
/-! DEFINITION. The control-word commands (40_control_word). -/

namespace Sys2Proof.Machine

/-- `FLAGS.RSVD` as the raw decodes write it: 1 when the decoded code is reserved (30_encoding R110). -/
def State.flagReserved (s : State) (code : BitVec 3) : State :=
  s.setFlag .rsvd (decide (codeClass s.cfg code = .reserved))

/-- 40_control_word R121. -/
def execEncCw (s : State) : StepOutcome :=
  if codeClass s.cfg s.fCode = .reserved then fail s .invalidParam .rsvdCode
  else done (s.setBuf .wire (be32 (cwPack s.controlWord)))

/-- 40_control_word R122. -/
def execDecCw (s : State) : StepOutcome :=
  if s.mem.wire.length < 4 then fail s .malformed .shortCw
  else
    let cw := cwUnpack (headWord s.mem.wire)
    done ((s.setControlWord cw).flagReserved cw.code)

end Sys2Proof.Machine
end

