-- ==== Sys2Proof/Machine/Block.lean ====
section
/-! DEFINITION. The block commands (42_block). -/

namespace Sys2Proof.Machine

/-- 42_block R142. -/
def execEncBh (s : State) : StepOutcome := done (s.setBuf .wire (bhPack s.blockHeader))

/-- 42_block R143. -/
def execDecBh (s : State) : StepOutcome :=
  if s.mem.wire.length < 6 then fail s .malformed .shortBh
  else done (s.setBlockHeader (bhUnpack (slice s.mem.wire 0 6)))

/-- 42_block R145. -/
def execEncBframe (s : State) : StepOutcome :=
  if codeClass s.cfg s.fCode = .reserved then fail s .invalidParam .rsvdCode
  else if s.fBf ≠ 1 then fail s .invalidParam .bfClear
  else if s.fPlen.toNat < 6 then fail s .invalidParam .bhNofit
  else if s.mem.pay.length < s.fPlen.toNat - 6 then fail s .invalidParam .payShort
  else
    done (s.setBuf .wire
      (be32 (cwPack s.controlWord) ++ bhPack s.blockHeader ++ slice s.mem.pay 0 (s.fPlen.toNat - 6)))

/-- 42_block R146. -/
def execDecBframe (s : State) : StepOutcome :=
  if s.mem.wire.length < 4 then fail s .malformed .shortCw
  else
    let cw := cwUnpack (headWord s.mem.wire)
    if cw.plen.toNat < 6 then fail s .malformed .bhNofit
    else if s.mem.wire.length < 4 + cw.plen.toNat then fail s .malformed .shortFrame
    else
      done ((((s.setControlWord cw).setBlockHeader (bhUnpack (slice s.mem.wire 4 6))).setBuf .pay
        (slice s.mem.wire 10 (cw.plen.toNat - 6))).flagReserved cw.code)

end Sys2Proof.Machine
end

