-- ==== Sys2Proof/Machine/Checksum.lean ====
section
/-! DEFINITION. The checksum commands (43_crc16). -/

namespace Sys2Proof.Machine

/-- 43_crc16 R160. -/
def execCrcClr (s : State) : StepOutcome := done { s with crcAcc := crcStart s.cfg }

/-- 43_crc16 R161. -/
def execCrcUpdb (imm8 : Byte) (s : State) : StepOutcome := done { s with crcAcc := crcStep s.cfg s.crcAcc imm8 }

/-- 43_crc16 R162. -/
def execCrcUpdp (s : State) : StepOutcome := done { s with crcAcc := crcFeed s.cfg s.crcAcc s.mem.pay }

/-- 43_crc16 R163. -/
def execCrcGet (s : State) : StepOutcome := done { s with fCrc := crcFinal s.cfg s.crcAcc }

/-- 43_crc16 R164. -/
def execCrcChk (s : State) : StepOutcome := done (s.setFlag .crcok (decide (crcFinal s.cfg s.crcAcc = s.fCrc)))

end Sys2Proof.Machine
end

