-- ==== Sys2Proof/Machine/Operands.lean ====
section
/-! DEFINITION. The operands a command or a transaction reads and writes by name: the registers as the host port sees
them (10_state R26), and the correlator's key, entries and slot search (10_state R49; 45_correlator R182, R183). -/

namespace Sys2Proof.Machine

/-- The value of a register on the host port (10_state R21, R27 to R47). `WLEN` and `PAYN` are views of the buffers'
lengths (R40, R41). -/
def State.readReg (s : State) : Reg → Nat
  | .status => s.status.toNat
  | .flags => s.flags.toNat
  | .fCode => s.fCode.toNat
  | .fBf => s.fBf.toNat
  | .fRid => s.fRid.toNat
  | .fToken => s.fToken.toNat
  | .fPlen => s.fPlen.toNat
  | .fCrc => s.fCrc.toNat
  | .fTotal => s.fTotal.toNat
  | .fOffset => s.fOffset.toNat
  | .wlen => s.mem.wire.length
  | .payn => s.mem.pay.length
  | .crcAcc => s.crcAcc.toNat
  | .rErr => s.rErr.toNat
  | .rRoute => s.rRoute.toNat
  | .tokCnt => s.tokCnt.toNat
  | .kProto => s.kProto
  | .kPipe => s.kPipe
  | .kAddr => s.kAddr
  | .kUseCode => s.kUseCode.toNat
  | .kTag => s.kTag
  | .rTag => s.rTag
  | .rSlot => s.rSlot.toNat

/-- `X <- v` for a writable register, `v` being of the register's width (10_state R23); a read-only register is not
written. -/
def State.writeReg (s : State) (r : Reg) (v : Nat) : State :=
  match r with
  | .status => s
  | .flags => s
  | .fCode => { s with fCode := BitVec.ofNat 3 v }
  | .fBf => { s with fBf := BitVec.ofNat 1 v }
  | .fRid => { s with fRid := BitVec.ofNat 10 v }
  | .fToken => { s with fToken := BitVec.ofNat 10 v }
  | .fPlen => { s with fPlen := BitVec.ofNat 8 v }
  | .fCrc => { s with fCrc := BitVec.ofNat 16 v }
  | .fTotal => { s with fTotal := BitVec.ofNat 16 v }
  | .fOffset => { s with fOffset := BitVec.ofNat 16 v }
  | .wlen => s
  | .payn => s
  | .crcAcc => { s with crcAcc := BitVec.ofNat 16 v }
  | .rErr => s
  | .rRoute => s
  | .tokCnt => s
  | .kProto => { s with kProto := v }
  | .kPipe => { s with kPipe := v }
  | .kAddr => { s with kAddr := v }
  | .kUseCode => { s with kUseCode := BitVec.ofNat 1 v }
  | .kTag => { s with kTag := v }
  | .rTag => s
  | .rSlot => s

/-- The seven parts of a correlator key (10_state R49). -/
structure Key where
  proto : Nat
  pipe : Nat
  addr : Nat
  rid : BitVec 10
  token : BitVec 10
  useCode : BitVec 1
  code : BitVec 3
deriving DecidableEq, Repr

/-- `key()` of 10_state R49: the code takes part only when `K_USECODE` is 1. -/
def State.key (s : State) : Key :=
  ⟨s.kProto, s.kPipe, s.kAddr, s.fRid, s.fToken, s.kUseCode, if s.kUseCode = 1 then s.fCode else 0⟩

/-- `ekey` of 45_correlator R182. -/
def entryKey (e : CamEntry) : Key := ⟨e.proto, e.pipe, e.addr, e.rid, e.token, e.useCode, e.code⟩

/-- `CAM[i]`. -/
def State.entry (s : State) (i : Nat) : CamEntry := s.cam.getD i CamEntry.empty

/-- Slot `i` matches the current key (45_correlator R182). -/
def State.slotMatches (s : State) (i : Nat) : Bool := (s.entry i).valid && decide (entryKey (s.entry i) = s.key)

/-- `first_free()` of 45_correlator R183. -/
def State.firstFree (s : State) : Option Nat := (List.range s.cfg.camDepth).find? fun i => !(s.entry i).valid

/-- `first_match()` of 45_correlator R183 under `LOWEST_SLOT`. -/
def State.firstMatch (s : State) : Option Nat := (List.range s.cfg.camDepth).find? s.slotMatches

/-- Every matching slot (45_correlator R183, `CAM_MATCH_POLICY = ANY`). -/
def State.matchingSlots (s : State) : List Nat := (List.range s.cfg.camDepth).filter s.slotMatches

/-- The slot that answers a lookup (45_correlator R183). Under `ANY` it is a free choice among the matching slots
(93 U6, log 5). -/
def State.answeringSlot (s : State) : Option Nat :=
  match s.cfg.camMatchPolicy with
  | .lowestSlot => s.firstMatch
  | .any => s.matchingSlots[Config.freeSlot s.freeCount % s.matchingSlots.length]?

/-- A lookup draws one free choice when the policy is `ANY`, so that each lookup chooses afresh (log 5). -/
def State.drawChoice (s : State) : State :=
  match s.cfg.camMatchPolicy with
  | .lowestSlot => s
  | .any => { s with freeCount := s.freeCount + 1 }

/-- The entry `CAM_INS` stores: the current key and `K_TAG`, valid (45_correlator R184). -/
def State.newEntry (s : State) : CamEntry where
  valid := true
  proto := s.key.proto
  pipe := s.key.pipe
  addr := s.key.addr
  rid := s.key.rid
  token := s.key.token
  useCode := s.key.useCode
  code := s.key.code
  tag := s.kTag

/-- `CAM[i] <- e`. -/
def State.setEntry (s : State) (i : Nat) (e : CamEntry) : State := { s with cam := s.cam.set i e }

/-- `CAM[i].valid <- 0`; the entry's other fields keep what they hold, unobservable (93 U5). -/
def State.clearSlot (s : State) (i : Nat) : State := s.setEntry i { s.entry i with valid := false }

end Sys2Proof.Machine
end

