-- ==== Sys2Proof/Machine/Correlator.lean ====
section
/-! DEFINITION. The correlator commands (45_correlator). -/

namespace Sys2Proof.Machine

/-- The result registers of a hit in slot `i` (45_correlator R185, R186). -/
def State.reportHit (s : State) (i : Nat) : State :=
  { s.setFlag .hit true with rTag := (s.entry i).tag, rSlot := BitVec.ofNat 8 i }

/-- 45_correlator R181. The counter wraps at 1024 because it is 10 bits wide (00_scope R17). -/
def execTokAlloc (s : State) : StepOutcome :=
  withCorrelator s (done { s with fToken := s.tokCnt, tokCnt := s.tokCnt + 1 })

/-- 45_correlator R184. -/
def execCamIns (s : State) : StepOutcome :=
  withCorrelator s <|
    match s.firstFree with
    | none => fail s .full .none
    | some i => done { s.setEntry i s.newEntry with rSlot := BitVec.ofNat 8 i }

/-- 45_correlator R185. -/
def execCamLook (s : State) : StepOutcome :=
  withCorrelator s <|
    match s.answeringSlot with
    | none => done (s.drawChoice.setFlag .hit false)
    | some i => done (s.drawChoice.reportHit i)

/-- 45_correlator R186. -/
def execCamTake (s : State) : StepOutcome :=
  withCorrelator s <|
    match s.answeringSlot with
    | none => done (s.drawChoice.setFlag .hit false)
    | some i => done ((s.drawChoice.reportHit i).clearSlot i)

/-- 45_correlator R187. -/
def execCamDel (imm8 : Byte) (s : State) : StepOutcome :=
  withCorrelator s <|
    if s.cfg.camDepth ≤ imm8.toNat then fail s .invalidParam .badSlot
    else done ((s.setFlag .hit (s.entry imm8.toNat).valid).clearSlot imm8.toNat)

end Sys2Proof.Machine
end

