-- ==== Sys2Proof/Decode.lean ====
section
/-! DEFINITION. The two decoders of DFC, both total and rejecting by name: the command decoder (30_encoding R107) on a
16-bit command word, and the frame-code classifier (R106, R108) on the control word of a datagram; then the encoder. -/

namespace Sys2Proof

open Machine

/-- The two formats of a command word (30_encoding R97, R98). -/
inductive Format where
  | c0
  | ci
deriving DecidableEq, Repr

/-- Why a word names no instruction. -/
inductive DecodeReject where
  /-- 30_encoding R107 step 2: the opcode is not in the map of R104. -/
  | opcodeNotInMap
  /-- 30_encoding R107 step 2, R112: a correlator opcode while `HAS_CORR` is false. -/
  | correlatorAbsent
  /-- 30_encoding R107 step 3: a C0 opcode with a non-zero immediate. -/
  | immediateNotZero
  /-- 30_encoding R94: a datagram of fewer than 4 bytes holds no control word. -/
  | shortControlWord
  /-- 30_encoding R110: the 3-bit code is none of the five frame codes. -/
  | reservedCode
deriving DecidableEq, Repr

/-- An encoded instruction: a command word of the host port (30_encoding R96), or a control word of the wire (R86). -/
inductive EncodedWord where
  | command (w : Word16)
  | controlWord (w : Word32)
deriving DecidableEq, Repr

/-- The opcode map of 30_encoding R104: the format and the command of an opcode, `imm8` being the operand of a CI row. -/
def commandOf (opc imm8 : Byte) : Option (Format × Instr) :=
  match opc with
  | 0x00#8 => some (.c0, .nop)
  | 0x01#8 => some (.c0, .srst)
  | 0x10#8 => some (.c0, .encCw)
  | 0x11#8 => some (.c0, .decCw)
  | 0x20#8 => some (.c0, .encFrame)
  | 0x21#8 => some (.c0, .decFrame)
  | 0x22#8 => some (.c0, .decAuto)
  | 0x30#8 => some (.c0, .encBh)
  | 0x31#8 => some (.c0, .decBh)
  | 0x32#8 => some (.c0, .encBframe)
  | 0x33#8 => some (.c0, .decBframe)
  | 0x40#8 => some (.c0, .crcClr)
  | 0x41#8 => some (.ci, .crcUpdb imm8)
  | 0x42#8 => some (.c0, .crcUpdp)
  | 0x43#8 => some (.c0, .crcGet)
  | 0x44#8 => some (.c0, .crcChk)
  | 0x50#8 => some (.ci, .encRstp imm8)
  | 0x51#8 => some (.c0, .decRstp)
  | 0x52#8 => some (.c0, .encBackp)
  | 0x53#8 => some (.c0, .decBackp)
  | 0x60#8 => some (.c0, .tokAlloc)
  | 0x61#8 => some (.c0, .camIns)
  | 0x62#8 => some (.c0, .camLook)
  | 0x63#8 => some (.c0, .camTake)
  | 0x64#8 => some (.ci, .camDel imm8)
  | _ => none

/-- `w[15:8]`, the opcode of a command word (30_encoding R96). -/
def cmdOpc (w : Word16) : Byte := w.extractLsb' 8 8

/-- `w[7:0]`, the immediate of a command word (30_encoding R96). -/
def cmdImm (w : Word16) : Byte := w.extractLsb' 0 8

/-- The command decoder, in the order of 30_encoding R107. -/
def decodeCommand (hasCorr : Bool) (w : Word16) : Except DecodeReject Instr :=
  match commandOf (cmdOpc w) (cmdImm w) with
  | none => .error .opcodeNotInMap
  | some (fmt, i) =>
    if i.isCorrelator = true ∧ hasCorr = false then .error .correlatorAbsent
    else if fmt = .c0 ∧ cmdImm w ≠ 0 then .error .immediateNotZero
    else .ok i

/-- The frame-code classifier on a control word (30_encoding R106, R108). -/
def decodeControlWord (c : Config) (w : Word32) : Except DecodeReject Instr :=
  let cw := cwUnpack w
  match codeClass c cw.code with
  | .con => .ok (.codeCon cw.bf cw.rid cw.token cw.plen)
  | .non => .ok (.codeNon cw.bf cw.rid cw.token cw.plen)
  | .ack => .ok (.codeAck cw.bf cw.rid cw.token cw.plen)
  | .rst => .ok (.codeRst cw.bf cw.rid cw.token cw.plen)
  | .back => .ok (.codeBack cw.bf cw.rid cw.token cw.plen)
  | .reserved => .error .reservedCode

/-- The classifier on the bytes of a datagram: its control word is the first four bytes (20_memory R73). -/
def decodeDatagram (c : Config) (bytes : List Byte) : Except DecodeReject Instr :=
  if bytes.length < 4 then .error .shortControlWord else decodeControlWord c (headWord bytes)

/-- The decoder of an encoded word of either kind. -/
def decode (c : Config) : EncodedWord → Except DecodeReject Instr
  | .command w => decodeCommand c.hasCorr w
  | .controlWord w => decodeControlWord c w

/-- `(opc << 8) | imm8` (30_encoding R96, R114). -/
def commandWord (opc imm8 : Byte) : EncodedWord := .command (opc ++ imm8)

/-- The control word of the given code (30_encoding R86). -/
def codeWord (code : BitVec 3) (bf : BitVec 1) (rid token : BitVec 10) (plen : BitVec 8) : EncodedWord :=
  .controlWord (cwPack ⟨code, bf, rid, token, plen⟩)

/-- The encoder: the opcode map of 30_encoding R104 read backwards, and R86 with the code map of R106. -/
def encode (c : Config) : Instr → EncodedWord
  | .nop => commandWord 0x00 0
  | .srst => commandWord 0x01 0
  | .encCw => commandWord 0x10 0
  | .decCw => commandWord 0x11 0
  | .encFrame => commandWord 0x20 0
  | .decFrame => commandWord 0x21 0
  | .decAuto => commandWord 0x22 0
  | .encBh => commandWord 0x30 0
  | .decBh => commandWord 0x31 0
  | .encBframe => commandWord 0x32 0
  | .decBframe => commandWord 0x33 0
  | .crcClr => commandWord 0x40 0
  | .crcUpdb imm8 => commandWord 0x41 imm8
  | .crcUpdp => commandWord 0x42 0
  | .crcGet => commandWord 0x43 0
  | .crcChk => commandWord 0x44 0
  | .encRstp imm8 => commandWord 0x50 imm8
  | .decRstp => commandWord 0x51 0
  | .encBackp => commandWord 0x52 0
  | .decBackp => commandWord 0x53 0
  | .tokAlloc => commandWord 0x60 0
  | .camIns => commandWord 0x61 0
  | .camLook => commandWord 0x62 0
  | .camTake => commandWord 0x63 0
  | .camDel imm8 => commandWord 0x64 imm8
  | .codeCon bf rid token plen => codeWord c.codeCon bf rid token plen
  | .codeNon bf rid token plen => codeWord c.codeNon bf rid token plen
  | .codeAck bf rid token plen => codeWord c.codeAck bf rid token plen
  | .codeRst bf rid token plen => codeWord c.codeRst bf rid token plen
  | .codeBack bf rid token plen => codeWord c.codeBack bf rid token plen

/-- The datagram whose control word is `w` (30_encoding R108 numbers the word's bits) and whose payload is as many zero
bytes as the word announces (30_encoding R90). -/
def tableDatagram (w : Nat) : List Byte :=
  be32 (BitVec.ofNat 32 w) ++ List.replicate (cwUnpack (BitVec.ofNat 32 w)).plen.toNat 0

/-- What the decoders read from a row's bits as spec/opcode_table.json numbers them, at the default parameters: a row of
16 bits is a command word, a row of 32 bits the control word of a datagram. -/
def decodeTableWord (nbits w : Nat) : Option Instr :=
  if nbits ≤ 16 then (decodeCommand Config.default.hasCorr (BitVec.ofNat 16 w)).toOption
  else (decodeDatagram Config.default (tableDatagram w)).toOption

end Sys2Proof
end

