-- ==== Sys2Proof/Machine/Frame.lean ====
section
/-! DEFINITION. The frame commands (41_frame) and the five control words `DEC_AUTO` fetches and runs (30_encoding R106,
R108; log 6). -/

namespace Sys2Proof.Machine

/-- 41_frame R131. -/
def execEncFrame (s : State) : StepOutcome :=
  if codeClass s.cfg s.fCode = .reserved then fail s .invalidParam .rsvdCode
  else if s.mem.pay.length < s.fPlen.toNat then fail s .invalidParam .payShort
  else done (s.setBuf .wire (be32 (cwPack s.controlWord) ++ slice s.mem.pay 0 s.fPlen.toNat))

/-- 41_frame R132. -/
def execDecFrame (s : State) : StepOutcome :=
  if s.mem.wire.length < 4 then fail s .malformed .shortCw
  else
    let cw := cwUnpack (headWord s.mem.wire)
    if s.mem.wire.length < 4 + cw.plen.toNat then fail s .malformed .shortFrame
    else done (((s.setControlWord cw).setBuf .pay (slice s.mem.wire 4 cw.plen.toNat)).flagReserved cw.code)

/-- What every accepted frame leaves: the fields, the payload or fragment, `FLAGS.RSVD = 0` and the route (41_frame
R133). -/
def State.deliver (s : State) (cw : ControlWord) (payload : List Byte) (route : Route) : State :=
  { ((s.setControlWord cw).setBuf .pay payload).setFlag .rsvd false with rRoute := routeBits route }

/-- `R_ERR` and `FLAGS.ERRP` from the reset byte `b` (41_frame R133, 44_payload_helpers R172). -/
def State.setResetByte (s : State) (b : Byte) : State :=
  { s.setFlag .errp (resetMarker b) with rErr := resetError b }

/-- The receive front end on the datagram in `WIRE`, once its control word `cw` is known to be of the frame code `cls`
(41_frame R133, from the test of `RST_LEN` on). -/
def receiveFrame (cls : CodeClass) (cw : ControlWord) (s : State) : StepOutcome :=
  if cls = .rst ∧ cw.plen ≠ 1 then fail s .malformed .rstLen
  else if cw.bf = 1 ∧ cw.plen.toNat < 6 then fail s .malformed .bhNofit
  else if s.mem.wire.length < 4 + cw.plen.toNat then fail s .malformed .shortFrame
  else if cw.bf = 1 then
    done ((s.deliver cw (slice s.mem.wire 10 (cw.plen.toNat - 6)) .blockRx).setBlockHeader
      (bhUnpack (slice s.mem.wire 4 6)))
  else if cls = .rst then
    done ((s.deliver cw (slice s.mem.wire 4 cw.plen.toNat) (routeOf cls)).setResetByte (byteAt s.mem.wire 4))
  else done (s.deliver cw (slice s.mem.wire 4 cw.plen.toNat) (routeOf cls))

/-- 41_frame R133: fetch the control word from `WIRE`, classify it by its code, and run the front end on it. -/
def execDecAuto (s : State) : StepOutcome :=
  if s.mem.wire.length < 4 then fail s .malformed .shortCw
  else
    let cw := cwUnpack (headWord s.mem.wire)
    let cls := codeClass s.cfg cw.code
    if cls = .reserved then fail s .malformed .rsvdCode else receiveFrame cls cw s

/-- The control word of a confirmable request, as the front end runs it (30_encoding R106, 41_frame R133, R134). -/
def execCodeCon (bf : BitVec 1) (rid token : BitVec 10) (plen : BitVec 8) (s : State) : StepOutcome :=
  receiveFrame .con ⟨s.cfg.codeCon, bf, rid, token, plen⟩ s

/-- The control word of a non-confirmable request (30_encoding R106, 41_frame R133, R134). -/
def execCodeNon (bf : BitVec 1) (rid token : BitVec 10) (plen : BitVec 8) (s : State) : StepOutcome :=
  receiveFrame .non ⟨s.cfg.codeNon, bf, rid, token, plen⟩ s

/-- The control word of a positive response (30_encoding R106, 41_frame R133, R134). -/
def execCodeAck (bf : BitVec 1) (rid token : BitVec 10) (plen : BitVec 8) (s : State) : StepOutcome :=
  receiveFrame .ack ⟨s.cfg.codeAck, bf, rid, token, plen⟩ s

/-- The control word of an error-reset response (30_encoding R106, 41_frame R133, R134). -/
def execCodeRst (bf : BitVec 1) (rid token : BitVec 10) (plen : BitVec 8) (s : State) : StepOutcome :=
  receiveFrame .rst ⟨s.cfg.codeRst, bf, rid, token, plen⟩ s

/-- The control word of a block acknowledgment (30_encoding R106, 41_frame R133, R134). -/
def execCodeBack (bf : BitVec 1) (rid token : BitVec 10) (plen : BitVec 8) (s : State) : StepOutcome :=
  receiveFrame .back ⟨s.cfg.codeBack, bf, rid, token, plen⟩ s

end Sys2Proof.Machine
end

