-- ==== Sys2Proof/Machine/Payload.lean ====
section
/-! DEFINITION. The payload helper commands (44_payload_helpers). -/

namespace Sys2Proof.Machine

/-- 44_payload_helpers R171. -/
def execEncRstp (imm8 : Byte) (s : State) : StepOutcome := done (s.setBuf .pay [resetByte imm8])

/-- 44_payload_helpers R172. -/
def execDecRstp (s : State) : StepOutcome :=
  if s.mem.pay.length ≠ 1 then fail s .malformed .rstLen else done (s.setResetByte (byteAt s.mem.pay 0))

/-- 44_payload_helpers R173. -/
def execEncBackp (s : State) : StepOutcome := done (s.setBuf .pay (be16 s.fOffset))

/-- 44_payload_helpers R174. -/
def execDecBackp (s : State) : StepOutcome :=
  if s.mem.pay.length ≠ 2 then fail s .malformed .backLen
  else done { s with fOffset := u16 (byteAt s.mem.pay 0) (byteAt s.mem.pay 1) }

end Sys2Proof.Machine
end

