-- ==== Sys2Proof/Machine/System.lean ====
section
/-! DEFINITION. The system commands (46_system). -/

namespace Sys2Proof.Machine

/-- 46_system R200. -/
def execNop (s : State) : StepOutcome := done s

/-- 46_system R201. -/
def execSrst (s : State) : StepOutcome := done s.resetState

end Sys2Proof.Machine
end

