-- ==== Sys2Proof/Machine/Dispatch.lean ====
section
/-! DEFINITION. Which meaning each instruction has: one arm per row of spec/opcode_table.json. -/

namespace Sys2Proof.Machine

def exec (i : Instr) (s : State) : Host.Outcome State Fault Refusal :=
  match i with
  | .nop => Sys2Proof.Machine.execNop s
  | .srst => Sys2Proof.Machine.execSrst s
  | .encCw => Sys2Proof.Machine.execEncCw s
  | .decCw => Sys2Proof.Machine.execDecCw s
  | .encFrame => Sys2Proof.Machine.execEncFrame s
  | .decFrame => Sys2Proof.Machine.execDecFrame s
  | .decAuto => Sys2Proof.Machine.execDecAuto s
  | .encBh => Sys2Proof.Machine.execEncBh s
  | .decBh => Sys2Proof.Machine.execDecBh s
  | .encBframe => Sys2Proof.Machine.execEncBframe s
  | .decBframe => Sys2Proof.Machine.execDecBframe s
  | .crcClr => Sys2Proof.Machine.execCrcClr s
  | .crcUpdb imm8 => Sys2Proof.Machine.execCrcUpdb imm8 s
  | .crcUpdp => Sys2Proof.Machine.execCrcUpdp s
  | .crcGet => Sys2Proof.Machine.execCrcGet s
  | .crcChk => Sys2Proof.Machine.execCrcChk s
  | .encRstp imm8 => Sys2Proof.Machine.execEncRstp imm8 s
  | .decRstp => Sys2Proof.Machine.execDecRstp s
  | .encBackp => Sys2Proof.Machine.execEncBackp s
  | .decBackp => Sys2Proof.Machine.execDecBackp s
  | .tokAlloc => Sys2Proof.Machine.execTokAlloc s
  | .camIns => Sys2Proof.Machine.execCamIns s
  | .camLook => Sys2Proof.Machine.execCamLook s
  | .camTake => Sys2Proof.Machine.execCamTake s
  | .camDel imm8 => Sys2Proof.Machine.execCamDel imm8 s
  | .codeCon bf rid token plen => Sys2Proof.Machine.execCodeCon bf rid token plen s
  | .codeNon bf rid token plen => Sys2Proof.Machine.execCodeNon bf rid token plen s
  | .codeAck bf rid token plen => Sys2Proof.Machine.execCodeAck bf rid token plen s
  | .codeRst bf rid token plen => Sys2Proof.Machine.execCodeRst bf rid token plen s
  | .codeBack bf rid token plen => Sys2Proof.Machine.execCodeBack bf rid token plen s

end Sys2Proof.Machine
end

