-- ==== Sys2Proof/Machine/Port.lean ====
section
/-! DEFINITION. The host port (10_state R21, R23): the next transaction, the five transactions that are no command, and
where a word must stand for the next step to run it. -/

namespace Sys2Proof.Machine

/-- The first transaction not yet carried out, and the state in which it is carried out: it no longer waits, and nothing
has been returned to the host (log 1). -/
def State.nextTransaction (s : State) : Option (Transaction × State) :=
  match s.pending with
  | [] => none
  | t :: rest => some (t, { s with pending := rest, reply := .none })

/-- A register access: unimplemented numbers and absent correlator registers are outside the interface (10_state R23). -/
def withRegister (s : State) (number : Nat) (body : Reg → StepOutcome) : StepOutcome :=
  match regOfNumber number with
  | none => .refused (.registerUnimplemented number)
  | some r =>
    if regIsCorrelator r = true ∧ s.cfg.hasCorr = false then .refused (.registerAbsent number) else body r

/-- `RegRead(n)` of 10_state R21. -/
def portRegRead (number : Nat) (s : State) : StepOutcome :=
  withRegister s number fun r => .next { s with reply := .value (s.readReg r) }

/-- `RegWrite(n, v)` of 10_state R21, R23. -/
def portRegWrite (number value : Nat) (s : State) : StepOutcome :=
  withRegister s number fun r =>
    if regWritable r = false then .refused (.registerReadOnly number)
    else if 2 ^ regWidth s.cfg r ≤ value then .refused (.valueTooWide number value)
    else .next (s.writeReg r value)

/-- `Load(B, s)` of 10_state R21, R23; 20_memory R63. -/
def portLoad (b : Buf) (bytes : List Byte) (s : State) : StepOutcome :=
  if bufCap s.cfg b < bytes.length then .refused (.loadTooLong b bytes.length) else .next (s.setBuf b bytes)

/-- `Read(B)` of 10_state R21; 20_memory R63. -/
def portRead (b : Buf) (s : State) : StepOutcome := .next { s with reply := .bytes (s.mem.content b) }

/-- `Reset` of 10_state R21; 70_reset R230. -/
def portReset (s : State) : StepOutcome := .next s.resetState

/-- The state whose next transaction runs the given row bits: a row of 16 bits is a command word on the port; a row of 32
bits is the control word of a datagram in `WIRE`, which `DEC_AUTO` (word 0x2200) fetches and runs (log 6). -/
def placeWord (s : State) (nbits w : Nat) : State :=
  if nbits ≤ 16 then { s with pending := .cmd (BitVec.ofNat 16 w) :: s.pending }
  else { s.setBuf .wire (tableDatagram w) with pending := .cmd 0x2200#16 :: s.pending }

end Sys2Proof.Machine
end

