-- ==== Sys2Proof/Machine/Step.lean ====
section
/-! DEFINITION. One step of DFC: one host transaction (10_state R20, R21, R24). -/

namespace Sys2Proof.Machine

/-- One host transaction is carried out, in the order the host issues them (20_memory R75). A command word is decoded and
the command executed, or it is a reserved encoding (30_encoding R107). With no transaction waiting DFC holds its state
(60_exceptions R227). -/
def step (s : State) : Host.Outcome State Fault Refusal :=
  match s.nextTransaction with
  | none => .next s
  | some (.regRead number, s') => portRegRead number s'
  | some (.regWrite number value, s') => portRegWrite number value s'
  | some (.load b bytes, s') => portLoad b bytes s'
  | some (.read b, s') => portRead b s'
  | some (.reset, s') => portReset s'
  | some (.cmd w, s') =>
    match decodeCommand s'.cfg.hasCorr w with
    | .ok i => exec i s'
    | .error _ => reservedEncoding s'

/-- `s` with the instruction of the given table bits where the next step fetches it (logs 1, 6). -/
def State.withFetchWord (s : State) (nbits w : Nat) : State := placeWord s nbits w

end Sys2Proof.Machine
end

