-- ==== Sys2Proof/WellFormed.lean ====
section
/-! DEFINITION. The checks on terms: a configuration meets the constraints of 00_scope R8 and R9, an instruction exists
in a configuration (30_encoding R112), a host transaction is inside the interface (10_state R23). -/

namespace Sys2Proof

/-- The column "type and constraint" of 00_scope R8 and R9, and R8's "pairwise distinct" code values. -/
abbrev Config.Wf (c : Config) : Prop :=
  frameMax ≤ c.wireCap ∧ plenMax ≤ c.payCap ∧
  [c.codeCon, c.codeNon, c.codeAck, c.codeRst, c.codeBack].Nodup ∧
  1 ≤ c.camDepth ∧ c.camDepth ≤ 256 ∧
  1 ≤ c.protoW ∧ 1 ≤ c.pipeW ∧ 1 ≤ c.addrW ∧ 1 ≤ c.tagW

/-- An instruction exists in a configuration: the correlator's commands only when `HAS_CORR` is true
(30_encoding R107 step 2, R112). Every operand value is legal, because every operand is exactly as wide as its field. -/
abbrev Instr.Wf (c : Config) (i : Instr) : Prop := i.isCorrelator = true → c.hasCorr = true

/-- A register number names a register of this configuration (10_state R23, R26, R50). -/
def regPresent (c : Config) (n : Nat) : Bool :=
  match Machine.regOfNumber n with
  | none => false
  | some r => !Machine.regIsCorrelator r || c.hasCorr

/-- A transaction inside the interface of 10_state R23. -/
def Transaction.wf (c : Config) : Transaction → Bool
  | .regRead n => regPresent c n
  | .regWrite n v =>
    match Machine.regOfNumber n with
    | none => false
    | some r => (!Machine.regIsCorrelator r || c.hasCorr) && Machine.regWritable r && decide (v < 2 ^ Machine.regWidth c r)
  | .load b s => decide (s.length ≤ Machine.bufCap c b)
  | .read _ => true
  | .cmd _ => true
  | .reset => true

end Sys2Proof
end

