-- ==== Sys2Proof/Safety.lean ====
section
/-! DEFINITION. The words claims are stated in: what a reachable state looks like (`State.Wf`), and the spec's own tables
of what a command may write (10_state R35 to R47, 20_memory R64), written from the tables and not from the meanings. -/

namespace Sys2Proof

open Machine

/-- The complete list of `STATUS` values (60_exceptions R213). -/
def statusValues : List (BitVec 8) :=
  [0x00, 0x03, 0x04, 0x11, 0x21, 0x31, 0x32, 0x41, 0x51, 0x61, 0x71, 0x72, 0x82, 0x92, 0xA2]

/-- An entry's parts are of their parameter widths, and a key stored without its code has code 0 (10_state R48, R49). -/
abbrev entryFits (c : Config) (e : CamEntry) : Prop :=
  e.proto < 2 ^ c.protoW ∧ e.pipe < 2 ^ c.pipeW ∧ e.addr < 2 ^ c.addrW ∧ e.tag < 2 ^ c.tagW ∧
  (e.useCode = 0 → e.code = 0)

/-- The invariant of the machine: what every state reached from a reset state satisfies. -/
structure StateWf (s : State) : Prop where
  /-- 00_scope R8, R9. -/
  config : s.cfg.Wf
  /-- 20_memory R60 to R62, R82. -/
  memory : Memory.wf s.cfg s.mem
  /-- 60_exceptions R213. -/
  status : s.status ∈ statusValues
  /-- 41_frame R134: route values 6 and 7 are never written. -/
  route : s.rRoute.toNat ≤ 5
  /-- 10_state R48, R50. -/
  tableSize : s.cam.length = s.cfg.slots
  /-- 10_state R48. -/
  tableFits : ∀ e ∈ s.cam, entryFits s.cfg e
  /-- 10_state R44. -/
  protoFits : s.kProto < 2 ^ s.cfg.protoW
  /-- 10_state R44. -/
  pipeFits : s.kPipe < 2 ^ s.cfg.pipeW
  /-- 10_state R44. -/
  addrFits : s.kAddr < 2 ^ s.cfg.addrW
  /-- 10_state R46. -/
  keyTagFits : s.kTag < 2 ^ s.cfg.tagW
  /-- 10_state R47. -/
  foundTagFits : s.rTag < 2 ^ s.cfg.tagW
  /-- 10_state R47. -/
  slotFits : s.rSlot.toNat < s.cfg.camDepth

/-- The registers a front-end decode may write (10_state R35, row `DEC_AUTO`; R36 to R39, R41). -/
def decodeWrites : List Reg :=
  [.status, .flags, .fCode, .fBf, .fRid, .fToken, .fPlen, .fCrc, .fTotal, .fOffset, .payn, .rRoute]

/-- Which registers a command may write on some outcome: 10_state R35 for the field registers, R36 to R47 for the
others, `WLEN` and `PAYN` by R40, R41 and 20_memory R64. -/
def mayWrite : Instr → List Reg
  | .nop => [.status]
  | .srst => allRegs
  | .encCw => [.status, .wlen]
  | .decCw => [.status, .flags, .fCode, .fBf, .fRid, .fToken, .fPlen]
  | .encFrame => [.status, .wlen]
  | .decFrame => [.status, .flags, .fCode, .fBf, .fRid, .fToken, .fPlen, .payn]
  | .decAuto => .rErr :: decodeWrites
  | .encBh => [.status, .wlen]
  | .decBh => [.status, .fCrc, .fTotal, .fOffset]
  | .encBframe => [.status, .wlen]
  | .decBframe => [.status, .flags, .fCode, .fBf, .fRid, .fToken, .fPlen, .fCrc, .fTotal, .fOffset, .payn]
  | .crcClr => [.status, .crcAcc]
  | .crcUpdb _ => [.status, .crcAcc]
  | .crcUpdp => [.status, .crcAcc]
  | .crcGet => [.status, .fCrc]
  | .crcChk => [.status, .flags]
  | .encRstp _ => [.status, .payn]
  | .decRstp => [.status, .flags, .rErr]
  | .encBackp => [.status, .payn]
  | .decBackp => [.status, .fOffset]
  | .tokAlloc => [.status, .fToken, .tokCnt]
  | .camIns => [.status, .rSlot]
  | .camLook => [.status, .flags, .rTag, .rSlot]
  | .camTake => [.status, .flags, .rTag, .rSlot]
  | .camDel _ => [.status, .flags]
  | .codeCon _ _ _ _ => decodeWrites
  | .codeNon _ _ _ _ => decodeWrites
  | .codeAck _ _ _ _ => decodeWrites
  | .codeRst _ _ _ _ => .rErr :: decodeWrites
  | .codeBack _ _ _ _ => decodeWrites

/-- Which flags a command may write (10_state R37, column "written by"; `SRST` by R51). -/
def mayWriteFlag : Instr → List Flag
  | .nop => []
  | .srst => [.crcok, .rsvd, .errp, .hit]
  | .encCw => []
  | .decCw => [.rsvd]
  | .encFrame => []
  | .decFrame => [.rsvd]
  | .decAuto => [.rsvd, .errp]
  | .encBh => []
  | .decBh => []
  | .encBframe => []
  | .decBframe => [.rsvd]
  | .crcClr => []
  | .crcUpdb _ => []
  | .crcUpdp => []
  | .crcGet => []
  | .crcChk => [.crcok]
  | .encRstp _ => []
  | .decRstp => [.errp]
  | .encBackp => []
  | .decBackp => []
  | .tokAlloc => []
  | .camIns => []
  | .camLook => [.hit]
  | .camTake => [.hit]
  | .camDel _ => [.hit]
  | .codeCon _ _ _ _ => [.rsvd]
  | .codeNon _ _ _ _ => [.rsvd]
  | .codeAck _ _ _ _ => [.rsvd]
  | .codeRst _ _ _ _ => [.rsvd, .errp]
  | .codeBack _ _ _ _ => [.rsvd]

/-- Which buffers a command may replace (20_memory R64). -/
def mayReplace : Instr → List Buf
  | .nop => []
  | .srst => [.wire, .pay]
  | .encCw => [.wire]
  | .decCw => []
  | .encFrame => [.wire]
  | .decFrame => [.pay]
  | .decAuto => [.pay]
  | .encBh => [.wire]
  | .decBh => []
  | .encBframe => [.wire]
  | .decBframe => [.pay]
  | .crcClr => []
  | .crcUpdb _ => []
  | .crcUpdp => []
  | .crcGet => []
  | .crcChk => []
  | .encRstp _ => [.pay]
  | .decRstp => []
  | .encBackp => [.pay]
  | .decBackp => []
  | .tokAlloc => []
  | .camIns => []
  | .camLook => []
  | .camTake => []
  | .camDel _ => []
  | .codeCon _ _ _ _ => [.pay]
  | .codeNon _ _ _ _ => [.pay]
  | .codeAck _ _ _ _ => [.pay]
  | .codeRst _ _ _ _ => [.pay]
  | .codeBack _ _ _ _ => [.pay]

/-- The commands that write the correlator table (45_correlator R184, R186, R187; 46_system R201). -/
def mayWriteTable : Instr → Bool
  | .nop => false
  | .srst => true
  | .encCw => false
  | .decCw => false
  | .encFrame => false
  | .decFrame => false
  | .decAuto => false
  | .encBh => false
  | .decBh => false
  | .encBframe => false
  | .decBframe => false
  | .crcClr => false
  | .crcUpdb _ => false
  | .crcUpdp => false
  | .crcGet => false
  | .crcChk => false
  | .encRstp _ => false
  | .decRstp => false
  | .encBackp => false
  | .decBackp => false
  | .tokAlloc => false
  | .camIns => true
  | .camLook => false
  | .camTake => true
  | .camDel _ => true
  | .codeCon _ _ _ _ => false
  | .codeNon _ _ _ _ => false
  | .codeAck _ _ _ _ => false
  | .codeRst _ _ _ _ => false
  | .codeBack _ _ _ _ => false

/-- The commands that can never fail once decoded (60_exceptions R213). -/
def neverFails : Instr → Bool
  | .nop => true
  | .srst => true
  | .encCw => false
  | .decCw => false
  | .encFrame => false
  | .decFrame => false
  | .decAuto => false
  | .encBh => true
  | .decBh => false
  | .encBframe => false
  | .decBframe => false
  | .crcClr => true
  | .crcUpdb _ => true
  | .crcUpdp => true
  | .crcGet => true
  | .crcChk => true
  | .encRstp _ => true
  | .decRstp => false
  | .encBackp => true
  | .decBackp => false
  | .tokAlloc => true
  | .camIns => false
  | .camLook => true
  | .camTake => true
  | .camDel _ => false
  | .codeCon _ _ _ _ => false
  | .codeNon _ _ _ _ => false
  | .codeAck _ _ _ _ => false
  | .codeRst _ _ _ _ => false
  | .codeBack _ _ _ _ => false

/-- The codec commands of 20_memory R72's idempotency: those of files 40 to 44 except the `CRC_UPD*` pair. -/
def idempotentCodec : Instr → Bool
  | .nop => false
  | .srst => false
  | .encCw => true
  | .decCw => true
  | .encFrame => true
  | .decFrame => true
  | .decAuto => true
  | .encBh => true
  | .decBh => true
  | .encBframe => true
  | .decBframe => true
  | .crcClr => true
  | .crcUpdb _ => false
  | .crcUpdp => false
  | .crcGet => true
  | .crcChk => true
  | .encRstp _ => true
  | .decRstp => true
  | .encBackp => true
  | .decBackp => true
  | .tokAlloc => false
  | .camIns => false
  | .camLook => false
  | .camTake => false
  | .camDel _ => false
  | .codeCon _ _ _ _ => false
  | .codeNon _ _ _ _ => false
  | .codeAck _ _ _ _ => false
  | .codeRst _ _ _ _ => false
  | .codeBack _ _ _ _ => false

/-- The opcode map of 30_encoding R104 as its table's columns `opc` and format. -/
def opcodeMap : List (Byte × Format) :=
  [(0x00, .c0), (0x01, .c0), (0x10, .c0), (0x11, .c0), (0x20, .c0), (0x21, .c0), (0x22, .c0), (0x30, .c0), (0x31, .c0),
    (0x32, .c0), (0x33, .c0), (0x40, .c0), (0x41, .ci), (0x42, .c0), (0x43, .c0), (0x44, .c0), (0x50, .ci), (0x51, .c0),
    (0x52, .c0), (0x53, .c0), (0x60, .c0), (0x61, .c0), (0x62, .c0), (0x63, .c0), (0x64, .ci)]

/-- The four bytes of a control word, byte by byte as 30_encoding R87 writes them. -/
def cwBytes (c : ControlWord) : List Byte :=
  [c.code ++ c.bf ++ c.rid.extractLsb' 6 4, c.rid.extractLsb' 0 6 ++ c.token.extractLsb' 8 2,
    c.token.extractLsb' 0 8, c.plen]

/-- The control word in four bytes: 30_encoding R87 read backwards. -/
def cwOfBytes (b0 b1 b2 b3 : Byte) : ControlWord where
  code := b0.extractLsb' 5 3
  bf := b0.extractLsb' 4 1
  rid := b0.extractLsb' 0 4 ++ b1.extractLsb' 2 6
  token := b1.extractLsb' 0 2 ++ b2
  plen := b3

/-- The six bytes of a block header (30_encoding R89): each field's high byte, then its low byte. -/
def bhBytes (h : BlockHeader) : List Byte :=
  [h.crc.extractLsb' 8 8, h.crc.extractLsb' 0 8, h.total.extractLsb' 8 8, h.total.extractLsb' 0 8,
    h.offset.extractLsb' 8 8, h.offset.extractLsb' 0 8]

/-- The table of 10_state R51: every piece of state at its reset value, in a DFC with the parameters `c`. -/
def atReset (c : Config) (t : State) : Prop :=
  t.cfg = c ∧ t.status = 0x00 ∧ t.flags = 0 ∧ t.fCode = 0 ∧ t.fBf = 0 ∧ t.fRid = 0 ∧ t.fToken = 0 ∧ t.fPlen = 0 ∧
  t.fCrc = 0 ∧ t.fTotal = 0 ∧ t.fOffset = 0 ∧ t.mem.wire = [] ∧ t.mem.pay = [] ∧ t.crcAcc = crcStart c ∧ t.rErr = 0 ∧
  t.rRoute = 0 ∧ t.tokCnt = c.tokReset ∧ t.kProto = 0 ∧ t.kPipe = 0 ∧ t.kAddr = 0 ∧ t.kUseCode = 0 ∧ t.kTag = 0 ∧
  t.rTag = 0 ∧ t.rSlot = 0 ∧ ∀ k < c.camDepth, (t.entry k).valid = false

/-- Slot `k` matches the current key, part by part (10_state R49, 45_correlator R182). -/
def slotHasKey (s : State) (k : Nat) : Prop :=
  (s.entry k).valid = true ∧ (s.entry k).proto = s.kProto ∧ (s.entry k).pipe = s.kPipe ∧ (s.entry k).addr = s.kAddr ∧
  (s.entry k).rid = s.fRid ∧ (s.entry k).token = s.fToken ∧ (s.entry k).useCode = s.kUseCode ∧
  (s.entry k).code = if s.kUseCode = 1 then s.fCode else 0

/-- The state a control word's five fields are delivered into, with `FLAGS.RSVD` written (10_state R35, R37). -/
def fieldsDelivered (s : State) (cw : ControlWord) (rsvd : Bool) : State :=
  { s with fCode := cw.code, fBf := cw.bf, fRid := cw.rid, fToken := cw.token, fPlen := cw.plen,
           flags := withFlag s.flags .rsvd rsvd, status := 0x00 }

/-- 41_frame R133 from the test of `RST_LEN` on, clause by clause: what instruction `i` does in state `s` whose `WIRE`
holds four bytes and then `rest`, when the control word is `cw` and its code is of the class `cls`. -/
def runsAsFrontEnd (i : Instr) (cls : CodeClass) (cw : ControlWord) (rest : List Byte) (s : State) : Prop :=
  (cls = .rst → cw.plen ≠ 1 → exec i s = .next { s with status := 0x51 }) ∧
  ((cls = .rst → cw.plen = 1) → cw.bf = 1 → cw.plen.toNat < 6 → exec i s = .next { s with status := 0x31 }) ∧
  ((cls = .rst → cw.plen = 1) → (cw.bf = 1 → 6 ≤ cw.plen.toNat) → rest.length < cw.plen.toNat →
    exec i s = .next { s with status := 0x21 }) ∧
  (∀ h0 h1 h2 h3 h4 h5 frag, cls ≠ .rst → cw.bf = 1 → 6 ≤ cw.plen.toNat → cw.plen.toNat ≤ rest.length →
    rest = h0 :: h1 :: h2 :: h3 :: h4 :: h5 :: frag →
    exec i s = .next { fieldsDelivered s cw false with
      fCrc := h0 ++ h1, fTotal := h2 ++ h3, fOffset := h4 ++ h5,
      mem := { s.mem with pay := frag.take (cw.plen.toNat - 6) }, rRoute := 5 }) ∧
  (cls = .con ∨ cls = .non → cw.bf = 0 → cw.plen.toNat ≤ rest.length →
    exec i s = .next { fieldsDelivered s cw false with mem := { s.mem with pay := rest.take cw.plen.toNat }, rRoute := 1 }) ∧
  (cls = .ack → cw.bf = 0 → cw.plen.toNat ≤ rest.length →
    exec i s = .next { fieldsDelivered s cw false with mem := { s.mem with pay := rest.take cw.plen.toNat }, rRoute := 2 }) ∧
  (cls = .back → cw.bf = 0 → cw.plen.toNat ≤ rest.length →
    exec i s = .next { fieldsDelivered s cw false with mem := { s.mem with pay := rest.take cw.plen.toNat }, rRoute := 3 }) ∧
  (∀ b more, cls = .rst → cw.plen = 1 → cw.bf = 0 → rest = b :: more →
    exec i s = .next { fieldsDelivered s cw false with
      mem := { s.mem with pay := [b] }, rRoute := 4, rErr := b.extractLsb' 0 7,
      flags := withFlag (withFlag s.flags .rsvd false) .errp (b.getLsbD 7) })

/-- A piece of a payload fed to the checksum: one byte by `CRC_UPDB`, or a chunk through `PAY` by `CRC_UPDP`
(43_crc16 R165). -/
inductive Piece where
  | byte (b : Byte)
  | chunk (s : List Byte)
deriving DecidableEq, Repr

/-- The bytes of a piece. -/
def Piece.bytes : Piece → List Byte
  | .byte b => [b]
  | .chunk s => s

/-- The transactions that feed a piece: `CRC_UPDB b`, or `LOAD PAY, s` and `CRC_UPDP` (30_encoding R114, R115). -/
def Piece.transactions : Piece → List Transaction
  | .byte b => [.cmd (0x41#8 ++ b)]
  | .chunk s => [.load .pay s, .cmd 0x4200]

/-- In the run of `n` steps from `s`, no step is a `CAM_INS` that fills slot `k` (45_correlator R184, R188). -/
def neverFills (k n : Nat) (s : State) : Prop :=
  ∀ m < n, ∀ u, core.run m s = .next u → u.pending.head? = some (.cmd 0x6100) → u.cfg.hasCorr = true →
    u.firstFree ≠ some k

/-- Command `i`, having left state `u`, reports a hit on slot `k`: it is done with `FLAGS.HIT = 1`, and `k` is the slot of
`R_SLOT` (`CAM_LOOK`, `CAM_TAKE`) or of its immediate (`CAM_DEL`) (45_correlator R185 to R188). -/
def reportsHitOn (k : Nat) (i : Instr) (u : State) : Prop :=
  u.status = 0x00 ∧ flagOf u.flags .hit = true ∧
  (((i = .camLook ∨ i = .camTake) ∧ u.rSlot.toNat = k) ∨ ∃ imm8 : Byte, i = .camDel imm8 ∧ imm8.toNat = k)

end Sys2Proof
end

