-- ==== Sys2Proof/Certificates/Slice0/Obligations.lean ====
section
/-! DEFINITION. The statements for the provers, each from the numbered rules of spec/ its docstring names. -/

open Sys2Proof Sys2Proof.Machine

/-! ## Encoding and decoding -/

/-- Decode and encode agree: 30_encoding R96 to R98, R104, R107 for the commands, R86 and R106 for the control words.
The encoder is the model's own reading of the same tables. -/
def Obligations.DecodeOfEncodeIsTheInstruction : Prop :=
  ∀ (c : Config) (i : Instr), c.Wf → i.Wf c → decode c (encode c i) = .ok i

/-- 30_encoding R104, R106, R107: no word means two instructions, and an accepted word has no bit the decoder drops. -/
def Obligations.EncodeOfDecodeIsTheWord : Prop :=
  ∀ (c : Config) (w : EncodedWord) (i : Instr), decode c w = .ok i → i.Wf c ∧ encode c i = w

/-- 30_encoding R107, on the word alone: a word is accepted exactly when its opcode is in the map, the correlator is there
for opcodes 0x60 to 0x64, and a C0 word has immediate zero; then the instruction whose encoding the word is runs. Every
other word, of all 65 536, makes the command fail `INVALID_OP` and change nothing else. The waiting list and the reply are
the model's own fields (log 1). -/
def Obligations.CommandDecoderFollowsTheMap : Prop :=
  ∀ (s : State) (w : Word16) (rest : List Transaction),
    let accepted : Prop := ∃ row ∈ opcodeMap, row.1 = w.extractLsb' 8 8 ∧
      (0x60 ≤ row.1.toNat → s.cfg.hasCorr = true) ∧ (row.2 = .c0 → w.extractLsb' 0 8 = 0)
    (accepted → ∃ i, decodeCommand s.cfg.hasCorr w = .ok i ∧ encode s.cfg i = .command w ∧
      step { s with pending := .cmd w :: rest } = exec i { s with pending := rest, reply := .none }) ∧
    (¬accepted → step { s with pending := .cmd w :: rest } =
      .next { s with pending := rest, reply := .none, status := 0x03 })

/-- A step runs the decoded instruction (30_encoding R107; 10_state R21), and `State.withFetchWord` puts a command word
where the next step takes it (the model's convention, log 1). -/
def Obligations.StepRunsTheDecodedCommand : Prop :=
  ∀ (s : State) (w : Word16) (i : Instr) (rest : List Transaction), decodeCommand s.cfg.hasCorr w = .ok i →
    step { s with pending := .cmd w :: rest } = exec i { s with pending := rest, reply := .none } ∧
    step (s.withFetchWord 16 w.toNat) = exec i { s with reply := .none }

/-- `DEC_AUTO` runs the control word it finds in `WIRE` (41_frame R133, 30_encoding R106; the model's reading of the
WIRE_CW rows, log 6): when the datagram decodes to one of the five, the command does what that control word does, and
`State.withFetchWord` puts a control word where the next step finds it so. -/
def Obligations.DecAutoRunsTheControlWord : Prop :=
  ∀ (s : State) (i : Instr),
    (decodeDatagram s.cfg s.mem.wire = .ok i → exec .decAuto s = exec i s) ∧
    (∀ W : Word32, decodeControlWord s.cfg W = .ok i →
      step (s.withFetchWord 32 W.toNat) =
        exec i { s with mem := { s.mem with wire := tableDatagram W.toNat }, reply := .none })

/-- The 25 rows of 30_encoding R104, opcode by opcode, and then words written out from R86, R104, R106 and R114. A sanity
check. The row clauses hold for every configuration. The `decodeTableWord` clauses are about `Config.default` and rest on the
model's choices: `CAM_DEL 3` on `HAS_CORR` = true (log 2, DESIGN CHOICE), the control words on the default code values (log 2,
PRESUMED) and on the datagram `tableDatagram` makes of a row's 32 bits (log 6, DESIGN CHOICE). -/
def Obligations.SampleWordsDecode : Prop :=
  (∀ row ∈ [(0x0000#16, Instr.nop), (0x0100#16, .srst), (0x1000#16, .encCw), (0x1100#16, .decCw), (0x2000#16, .encFrame),
      (0x2100#16, .decFrame), (0x2200#16, .decAuto), (0x3000#16, .encBh), (0x3100#16, .decBh), (0x3200#16, .encBframe),
      (0x3300#16, .decBframe), (0x4000#16, .crcClr), (0x4200#16, .crcUpdp), (0x4300#16, .crcGet), (0x4400#16, .crcChk),
      (0x5100#16, .decRstp), (0x5200#16, .encBackp), (0x5300#16, .decBackp)],
    ∀ hasCorr : Bool, decodeCommand hasCorr row.1 = .ok row.2) ∧
  (∀ row ∈ [(0x6000#16, Instr.tokAlloc), (0x6100#16, .camIns), (0x6200#16, .camLook), (0x6300#16, .camTake)],
    decodeCommand true row.1 = .ok row.2) ∧
  (∀ (hasCorr : Bool) (imm8 : Byte), decodeCommand hasCorr (0x41#8 ++ imm8) = .ok (.crcUpdb imm8) ∧
    decodeCommand hasCorr (0x50#8 ++ imm8) = .ok (.encRstp imm8) ∧
    decodeCommand true (0x64#8 ++ imm8) = .ok (.camDel imm8)) ∧
  decodeTableWord 16 0x0000 = some .nop ∧ decodeTableWord 16 0x1000 = some .encCw ∧
  decodeTableWord 16 0x2200 = some .decAuto ∧ decodeTableWord 16 0x3300 = some .decBframe ∧
  decodeTableWord 16 0x4131 = some (.crcUpdb 0x31) ∧ decodeTableWord 16 0x5012 = some (.encRstp 0x12) ∧
  decodeTableWord 16 0x6403 = some (.camDel 3) ∧ decodeTableWord 16 0x2201 = none ∧ decodeTableWord 16 0x6500 = none ∧
  decodeTableWord 32 0x00040503 = some (.codeCon 0 1 5 3) ∧ decodeTableWord 32 0x20040500 = some (.codeNon 0 1 5 0) ∧
  decodeTableWord 32 0x60040501 = some (.codeRst 0 1 5 1) ∧ decodeTableWord 32 0x5556AA06 = some (.codeAck 1 0x155 0x2AA 6) ∧
  decodeTableWord 32 0x80040502 = some (.codeBack 0 1 5 2) ∧ decodeTableWord 32 0xA0000000 = none

/-- 30_encoding R106: `code_class` returns a code's name exactly on the matching parameter, and `RESERVED` exactly on the
values that are none of the five, in every configuration with distinct codes. -/
def Obligations.CodeClassFollowsTheParameters : Prop :=
  ∀ (c : Config) (v : BitVec 3), c.Wf →
    (codeClass c v = .con ↔ v = c.codeCon) ∧ (codeClass c v = .non ↔ v = c.codeNon) ∧
    (codeClass c v = .ack ↔ v = c.codeAck) ∧ (codeClass c v = .rst ↔ v = c.codeRst) ∧
    (codeClass c v = .back ↔ v = c.codeBack) ∧
    (codeClass c v = .reserved ↔
      v ≠ c.codeCon ∧ v ≠ c.codeNon ∧ v ≠ c.codeAck ∧ v ≠ c.codeRst ∧ v ≠ c.codeBack)

/-! ## Wire formats -/

/-- 30_encoding R87: the control word byte by byte, in both directions, and as the formula of shifts. -/
def Obligations.ControlWordBytesOnTheWire : Prop :=
  (∀ cw : ControlWord, be32 (cwPack cw) = cwBytes cw) ∧
  (∀ b0 b1 b2 b3 : Byte, cwUnpack (u32 b0 b1 b2 b3) = cwOfBytes b0 b1 b2 b3) ∧
  (∀ cw : ControlWord, cwPack cw = (cw.code.setWidth 32 <<< 29) ||| (cw.bf.setWidth 32 <<< 28) |||
    (cw.rid.setWidth 32 <<< 18) ||| (cw.token.setWidth 32 <<< 8) ||| cw.plen.setWidth 32)

/-- 40_control_word R125: unpack after pack and pack after unpack are the identity, reserved codes included. -/
def Obligations.ControlWordPackUnpackInverse : Prop :=
  (∀ cw : ControlWord, cwUnpack (cwPack cw) = cw) ∧ (∀ w : Word32, cwPack (cwUnpack w) = w) ∧
  (∀ w : Word32, cwUnpack w =
    ⟨w.extractLsb' 29 3, w.extractLsb' 28 1, w.extractLsb' 18 10, w.extractLsb' 8 10, w.extractLsb' 0 8⟩)

/-- 42_block R141: `bh_pack` is the three fields big-endian, and each function is the inverse of the other. -/
def Obligations.BlockHeaderPackUnpackInverse : Prop :=
  (∀ h : BlockHeader, bhPack h = bhBytes h) ∧ (∀ h : BlockHeader, bhUnpack (bhPack h) = h) ∧
  (∀ b0 b1 b2 b3 b4 b5 : Byte, bhUnpack [b0, b1, b2, b3, b4, b5] = ⟨b0 ++ b1, b2 ++ b3, b4 ++ b5⟩ ∧
    bhPack (bhUnpack [b0, b1, b2, b3, b4, b5]) = [b0, b1, b2, b3, b4, b5])

/-! ## System and control-word commands -/

/-- 46_system R200. -/
def Obligations.NopWritesOnlyStatus : Prop := ∀ s : State, exec .nop s = .next { s with status := 0x00 }

/-- 46_system R201 with the table of 10_state R51. The configuration is kept; the model's own fields (logs 1, 5) are too. -/
def Obligations.SrstLeavesTheResetState : Prop :=
  ∀ s : State, ∃ t, exec .srst s = .next t ∧ atReset s.cfg t ∧ t.pending = s.pending ∧ t.reply = s.reply ∧
    t.freeCount = s.freeCount

/-- 40_control_word R121. -/
def Obligations.EncCwPacksTheFields : Prop :=
  ∀ s : State,
    (codeClass s.cfg s.fCode = .reserved → exec .encCw s = .next { s with status := 0x72 }) ∧
    (codeClass s.cfg s.fCode ≠ .reserved →
      exec .encCw s = .next { s with mem := { s.mem with wire := cwBytes s.controlWord }, status := 0x00 })

/-- 40_control_word R122. -/
def Obligations.DecCwUnpacksTheFirstFourBytes : Prop :=
  ∀ s : State,
    (s.mem.wire.length < 4 → exec .decCw s = .next { s with status := 0x11 }) ∧
    (∀ b0 b1 b2 b3 rest, s.mem.wire = b0 :: b1 :: b2 :: b3 :: rest →
      exec .decCw s = .next (fieldsDelivered s (cwOfBytes b0 b1 b2 b3)
        (decide (codeClass s.cfg (cwOfBytes b0 b1 b2 b3).code = .reserved))))

/-- 40_control_word R123. -/
def Obligations.ControlWordCommandsRoundTrip : Prop :=
  ∀ s : State,
    (codeClass s.cfg s.fCode ≠ .reserved → ∃ t u, exec .encCw s = .next t ∧ exec .decCw t = .next u ∧
      t.status = 0x00 ∧ u.status = 0x00 ∧ u.controlWord = s.controlWord ∧ flagOf u.flags .rsvd = false ∧
      u.mem.wire = cwBytes s.controlWord) ∧
    (∀ b0 b1 b2 b3 rest, s.mem.wire = b0 :: b1 :: b2 :: b3 :: rest →
      codeClass s.cfg (b0.extractLsb' 5 3) ≠ .reserved →
      ∃ t u, exec .decCw s = .next t ∧ exec .encCw t = .next u ∧ u.mem.wire = [b0, b1, b2, b3])

/-! ## Frame commands and the receive front end -/

/-- 41_frame R131. -/
def Obligations.EncFrameBuildsTheDatagram : Prop :=
  ∀ s : State,
    (codeClass s.cfg s.fCode = .reserved → exec .encFrame s = .next { s with status := 0x72 }) ∧
    (codeClass s.cfg s.fCode ≠ .reserved → s.mem.pay.length < s.fPlen.toNat →
      exec .encFrame s = .next { s with status := 0x82 }) ∧
    (codeClass s.cfg s.fCode ≠ .reserved → s.fPlen.toNat ≤ s.mem.pay.length →
      exec .encFrame s = .next { s with
        mem := { s.mem with wire := cwBytes s.controlWord ++ s.mem.pay.take s.fPlen.toNat }, status := 0x00 })

/-- 41_frame R132. -/
def Obligations.DecFrameTakesTheDatagramApart : Prop :=
  ∀ s : State,
    (s.mem.wire.length < 4 → exec .decFrame s = .next { s with status := 0x11 }) ∧
    (∀ b0 b1 b2 b3 rest, s.mem.wire = b0 :: b1 :: b2 :: b3 :: rest →
      (rest.length < b3.toNat → exec .decFrame s = .next { s with status := 0x21 }) ∧
      (b3.toNat ≤ rest.length →
        exec .decFrame s = .next { fieldsDelivered s (cwOfBytes b0 b1 b2 b3)
            (decide (codeClass s.cfg (cwOfBytes b0 b1 b2 b3).code = .reserved)) with
          mem := { s.mem with pay := rest.take b3.toNat } }))

/-- 41_frame R133 with the route numbers of R134. -/
def Obligations.DecAutoReceivesAndRoutes : Prop :=
  ∀ s : State,
    (s.mem.wire.length < 4 → exec .decAuto s = .next { s with status := 0x11 }) ∧
    (∀ b0 b1 b2 b3 rest, s.mem.wire = b0 :: b1 :: b2 :: b3 :: rest →
      (codeClass s.cfg (cwOfBytes b0 b1 b2 b3).code = .reserved → exec .decAuto s = .next { s with status := 0x71 }) ∧
      (∀ cls, cls ≠ .reserved → codeClass s.cfg (cwOfBytes b0 b1 b2 b3).code = cls →
        runsAsFrontEnd .decAuto cls (cwOfBytes b0 b1 b2 b3) rest s))

/-- The five control words of 30_encoding R106, run as 41_frame R133 and R134 run a frame of their code on the datagram in
`WIRE`. That the WIRE_CW rows are what the front end executes is the model's reading (DESIGN CHOICE, log 6). -/
def Obligations.ControlWordRowsRunTheFrontEnd : Prop :=
  ∀ (s : State) (b0 b1 b2 b3 : Byte) (rest : List Byte) (bf : BitVec 1) (rid token : BitVec 10) (plen : BitVec 8),
    s.mem.wire = b0 :: b1 :: b2 :: b3 :: rest →
    runsAsFrontEnd (.codeCon bf rid token plen) .con ⟨s.cfg.codeCon, bf, rid, token, plen⟩ rest s ∧
    runsAsFrontEnd (.codeNon bf rid token plen) .non ⟨s.cfg.codeNon, bf, rid, token, plen⟩ rest s ∧
    runsAsFrontEnd (.codeAck bf rid token plen) .ack ⟨s.cfg.codeAck, bf, rid, token, plen⟩ rest s ∧
    runsAsFrontEnd (.codeRst bf rid token plen) .rst ⟨s.cfg.codeRst, bf, rid, token, plen⟩ rest s ∧
    runsAsFrontEnd (.codeBack bf rid token plen) .back ⟨s.cfg.codeBack, bf, rid, token, plen⟩ rest s

/-- 41_frame R135, laws (a) to (d). -/
def Obligations.FrameFamilyLaws : Prop :=
  ∀ s : State,
    (codeClass s.cfg s.fCode ≠ .reserved → s.fPlen.toNat ≤ s.mem.pay.length →
      ∃ t u, exec .encFrame s = .next t ∧ exec .decFrame t = .next u ∧ t.status = 0x00 ∧ u.status = 0x00 ∧
        u.controlWord = s.controlWord ∧ u.blockHeader = s.blockHeader ∧ u.mem.pay = s.mem.pay.take s.fPlen.toNat) ∧
    (∀ t, exec .decFrame s = .next t → t.status = 0x00 → codeClass s.cfg t.fCode ≠ .reserved →
      ∃ u, exec .encFrame t = .next u ∧ u.mem.wire = s.mem.wire.take (4 + t.fPlen.toNat)) ∧
    (∀ t, exec .decAuto s = .next t → t.status = 0x00 →
      ∃ u, exec (if t.fBf = 0 then .decFrame else .decBframe) s = .next u ∧ u.status = 0x00 ∧
        u.controlWord = t.controlWord ∧ u.blockHeader = t.blockHeader ∧ u.mem.pay = t.mem.pay ∧
        flagOf u.flags .rsvd = flagOf t.flags .rsvd) ∧
    (∀ t, exec .decAuto s = .next t → t.status ≠ 0x00 →
      (s.mem.wire.length < 4 ∧ exec .decFrame s = .next { s with status := 0x11 } ∧
        exec .decBframe s = .next { s with status := 0x11 }) ∨
      ∃ b0 b1 b2 b3 rest, s.mem.wire = b0 :: b1 :: b2 :: b3 :: rest ∧
        (codeClass s.cfg (cwOfBytes b0 b1 b2 b3).code = .reserved ∨
          (codeClass s.cfg (cwOfBytes b0 b1 b2 b3).code = .rst ∧ b3 ≠ 1) ∨
          ∃ u, exec (if (cwOfBytes b0 b1 b2 b3).bf = 0 then .decFrame else .decBframe) s = .next u ∧ u.status ≠ 0x00))

/-! ## Block commands -/

/-- 42_block R142. -/
def Obligations.EncBhPutsTheHeader : Prop :=
  ∀ s : State, exec .encBh s = .next { s with mem := { s.mem with wire := bhBytes s.blockHeader }, status := 0x00 }

/-- 42_block R143. -/
def Obligations.DecBhReadsTheHeader : Prop :=
  ∀ s : State,
    (s.mem.wire.length < 6 → exec .decBh s = .next { s with status := 0x41 }) ∧
    (∀ h0 h1 h2 h3 h4 h5 rest, s.mem.wire = h0 :: h1 :: h2 :: h3 :: h4 :: h5 :: rest →
      exec .decBh s = .next { s with fCrc := h0 ++ h1, fTotal := h2 ++ h3, fOffset := h4 ++ h5, status := 0x00 })

/-- 42_block R145. -/
def Obligations.EncBframeBuildsTheDatagram : Prop :=
  ∀ s : State,
    (codeClass s.cfg s.fCode = .reserved → exec .encBframe s = .next { s with status := 0x72 }) ∧
    (codeClass s.cfg s.fCode ≠ .reserved → s.fBf = 0 → exec .encBframe s = .next { s with status := 0x92 }) ∧
    (codeClass s.cfg s.fCode ≠ .reserved → s.fBf = 1 → s.fPlen.toNat < 6 →
      exec .encBframe s = .next { s with status := 0x32 }) ∧
    (codeClass s.cfg s.fCode ≠ .reserved → s.fBf = 1 → 6 ≤ s.fPlen.toNat → s.mem.pay.length < s.fPlen.toNat - 6 →
      exec .encBframe s = .next { s with status := 0x82 }) ∧
    (codeClass s.cfg s.fCode ≠ .reserved → s.fBf = 1 → 6 ≤ s.fPlen.toNat → s.fPlen.toNat - 6 ≤ s.mem.pay.length →
      exec .encBframe s = .next { s with
        mem := { s.mem with
          wire := cwBytes s.controlWord ++ bhBytes s.blockHeader ++ s.mem.pay.take (s.fPlen.toNat - 6) },
        status := 0x00 })

/-- 42_block R146. -/
def Obligations.DecBframeTakesTheDatagramApart : Prop :=
  ∀ s : State,
    (s.mem.wire.length < 4 → exec .decBframe s = .next { s with status := 0x11 }) ∧
    (∀ b0 b1 b2 b3 rest, s.mem.wire = b0 :: b1 :: b2 :: b3 :: rest →
      (b3.toNat < 6 → exec .decBframe s = .next { s with status := 0x31 }) ∧
      (6 ≤ b3.toNat → rest.length < b3.toNat → exec .decBframe s = .next { s with status := 0x21 }) ∧
      (∀ h0 h1 h2 h3 h4 h5 frag, 6 ≤ b3.toNat → b3.toNat ≤ rest.length →
        rest = h0 :: h1 :: h2 :: h3 :: h4 :: h5 :: frag →
        exec .decBframe s = .next { fieldsDelivered s (cwOfBytes b0 b1 b2 b3)
            (decide (codeClass s.cfg (cwOfBytes b0 b1 b2 b3).code = .reserved)) with
          fCrc := h0 ++ h1, fTotal := h2 ++ h3, fOffset := h4 ++ h5,
          mem := { s.mem with pay := frag.take (b3.toNat - 6) } }))

/-- 42_block R144: the block commands agree with the frame commands on the spliced payload. -/
def Obligations.BlockFrameIsAFrameWithTheHeaderInFront : Prop :=
  (∀ (s t : State), exec .encBframe s = .next t → t.status = 0x00 →
    ∃ u, exec .encFrame { s with mem := { s.mem with
        pay := bhPack s.blockHeader ++ s.mem.pay.take (s.fPlen.toNat - 6) } } = .next u ∧
      u.status = 0x00 ∧ u.mem.wire = t.mem.wire) ∧
  (∀ (s t : State), exec .decBframe s = .next t → t.status = 0x00 →
    ∃ u, exec .decFrame s = .next u ∧ u.status = 0x00 ∧ u.controlWord = t.controlWord ∧
      u.mem.pay.take 6 = bhPack t.blockHeader ∧ u.mem.pay.drop 6 = t.mem.pay)

/-- 42_block R148, laws (a) to (d). -/
def Obligations.BlockFamilyLaws : Prop :=
  ∀ s : State,
    (∃ t u, exec .encBh s = .next t ∧ exec .decBh t = .next u ∧ t.status = 0x00 ∧ u.status = 0x00 ∧
      u.blockHeader = s.blockHeader) ∧
    (codeClass s.cfg s.fCode ≠ .reserved → s.fBf = 1 → 6 ≤ s.fPlen.toNat → s.fPlen.toNat - 6 ≤ s.mem.pay.length →
      ∃ t u, exec .encBframe s = .next t ∧ exec .decBframe t = .next u ∧ t.status = 0x00 ∧ u.status = 0x00 ∧
        u.controlWord = s.controlWord ∧ u.blockHeader = s.blockHeader ∧
        u.mem.pay = s.mem.pay.take (s.fPlen.toNat - 6)) ∧
    (∀ t, exec .decBframe s = .next t → t.status = 0x00 → codeClass s.cfg t.fCode ≠ .reserved → t.fBf = 1 →
      ∃ u, exec .encBframe t = .next u ∧ u.mem.wire = s.mem.wire.take (4 + t.fPlen.toNat)) ∧
    ((∃ t, exec .decBframe s = .next t ∧ t.status = 0x00) ↔
      ∃ t, exec .decFrame s = .next t ∧ t.status = 0x00 ∧ 6 ≤ t.fPlen.toNat)

/-! ## Checksum -/

/-- 43_crc16 R156 to R159 for every parameter set: `reflect16` bit by bit, `crc_start`, the two forms of one iteration as
arithmetic, eight iterations a byte, `crc_final`, and `crc16` byte by byte; and what R156 and R158 say of the defaults. -/
def Obligations.ChecksumFunctionsFollowTheRules : Prop :=
  (∀ (v : Word16) (i : Nat), i < 16 → (reflect16 v).getLsbD i = v.getLsbD (15 - i)) ∧
  (∀ c : Config, crcStart c = if c.crcRefin = true then reflect16 c.crcInit else c.crcInit) ∧
  (∀ poly a : Word16, (crcShiftRight poly a).toNat =
    if a.toNat % 2 = 1 then (a.toNat / 2) ^^^ (reflect16 poly).toNat else a.toNat / 2) ∧
  (∀ poly a : Word16, (crcShiftLeft poly a).toNat =
    if 2 ^ 15 ≤ a.toNat then (a.toNat * 2 % 2 ^ 16) ^^^ poly.toNat else a.toNat * 2 % 2 ^ 16) ∧
  (∀ (c : Config) (acc : Word16) (b : Byte), crcStep c acc b =
    if c.crcRefin = true then
      (crcShiftRight c.crcPoly)^[8] (BitVec.ofNat 16 (acc.toNat ^^^ b.toNat))
    else (crcShiftLeft c.crcPoly)^[8] (BitVec.ofNat 16 (acc.toNat ^^^ (b.toNat * 256)))) ∧
  (∀ (c : Config) (acc : Word16), crcFinal c acc =
    (if c.crcRefin ≠ c.crcRefout then reflect16 acc else acc) ^^^ c.crcXorout) ∧
  (∀ (c : Config) (data : List Byte), ∃ a : Nat → Word16, a 0 = crcStart c ∧
    (∀ i b, data[i]? = some b → a (i + 1) = crcStep c (a i) b) ∧ crc16 c data = crcFinal c (a data.length)) ∧
  crcStart Config.default = 0xFFFF ∧ (∀ acc : Word16, crcFinal Config.default acc = acc)

/-- A reflected checksum unit is the mirror image of an unreflected one with the same polynomial: 43_crc16 R156 says that
with `CRC_REFIN` the accumulator holds the register bit-reversed throughout; here as a law of `crc_step`. -/
def Obligations.ReflectedChecksumIsTheMirrorImage : Prop :=
  ∀ (c : Config) (acc : Word16) (b : Byte),
    crcStep { c with crcRefin := true } (reflect16 acc) b =
      reflect16 (crcStep { c with crcRefin := false } acc b.reverse)

/-- 43_crc16 R160. -/
def Obligations.CrcClrStartsAChecksum : Prop :=
  ∀ s : State, exec .crcClr s = .next { s with crcAcc := crcStart s.cfg, status := 0x00 }

/-- 43_crc16 R161. -/
def Obligations.CrcUpdbFeedsTheImmediate : Prop :=
  ∀ (s : State) (imm8 : Byte),
    exec (.crcUpdb imm8) s = .next { s with crcAcc := crcStep s.cfg s.crcAcc imm8, status := 0x00 }

/-- 43_crc16 R162: the accumulator after `CRC_UPDP` is reached byte by byte, in index order. -/
def Obligations.CrcUpdpFeedsEveryByteInOrder : Prop :=
  ∀ s : State, ∃ a : Nat → Word16, a 0 = s.crcAcc ∧
    (∀ i b, s.mem.byte .pay i = some b → a (i + 1) = crcStep s.cfg (a i) b) ∧
    exec .crcUpdp s = .next { s with crcAcc := a s.mem.pay.length, status := 0x00 }

/-- 43_crc16 R163. -/
def Obligations.CrcGetDeliversTheFinalValue : Prop :=
  ∀ s : State, exec .crcGet s = .next { s with fCrc := crcFinal s.cfg s.crcAcc, status := 0x00 }

/-- 43_crc16 R164. -/
def Obligations.CrcChkComparesWithFCrc : Prop :=
  ∀ s : State,
    (crcFinal s.cfg s.crcAcc = s.fCrc →
      exec .crcChk s = .next { s with flags := withFlag s.flags .crcok true, status := 0x00 }) ∧
    (crcFinal s.cfg s.crcAcc ≠ s.fCrc →
      exec .crcChk s = .next { s with flags := withFlag s.flags .crcok false, status := 0x00 })

/-- 43_crc16 R165: pieces of a payload fed in order by any mixture of `CRC_UPDB` and `CRC_UPDP` leave the accumulator that
the joined payload leaves; so with `CRC_CLR` before and `CRC_GET` after them, `F_CRC = crc16(payload)`. -/
def Obligations.ChecksumDoesNotDependOnChunking : Prop :=
  ∀ (s : State) (pieces : List Piece) (after : List Transaction),
    (∀ chunk, .chunk chunk ∈ pieces → chunk.length ≤ s.cfg.payCap) →
    (s.pending = pieces.flatMap Piece.transactions ++ after →
      ∃ t, core.run (pieces.flatMap Piece.transactions).length s = .next t ∧
        t.crcAcc = crcFeed s.cfg s.crcAcc (pieces.flatMap Piece.bytes) ∧ t.pending = after) ∧
    (s.pending = .cmd 0x4000 :: pieces.flatMap Piece.transactions ++ .cmd 0x4300 :: after →
      ∃ t, core.run (2 + (pieces.flatMap Piece.transactions).length) s = .next t ∧
        t.fCrc = crc16 s.cfg (pieces.flatMap Piece.bytes) ∧
        t.crcAcc = crcFeed s.cfg (crcStart s.cfg) (pieces.flatMap Piece.bytes) ∧ t.pending = after)

/-! ## Payload helpers -/

/-- 44_payload_helpers R171. -/
def Obligations.EncRstpPutsTheResetByte : Prop :=
  ∀ (s : State) (imm8 : Byte),
    exec (.encRstp imm8) s = .next { s with
      mem := { s.mem with pay := [(1#1 ++ imm8.extractLsb' 0 7 : Byte)] }, status := 0x00 }

/-- 44_payload_helpers R172. -/
def Obligations.DecRstpReadsTheResetByte : Prop :=
  ∀ s : State,
    (s.mem.pay.length ≠ 1 → exec .decRstp s = .next { s with status := 0x51 }) ∧
    (∀ b, s.mem.pay = [b] → exec .decRstp s = .next { s with
      rErr := b.extractLsb' 0 7, flags := withFlag s.flags .errp (b.getLsbD 7), status := 0x00 })

/-- 44_payload_helpers R173. -/
def Obligations.EncBackpPutsTheOffset : Prop :=
  ∀ s : State, exec .encBackp s = .next { s with
    mem := { s.mem with pay := [s.fOffset.extractLsb' 8 8, s.fOffset.extractLsb' 0 8] }, status := 0x00 }

/-- 44_payload_helpers R174. -/
def Obligations.DecBackpReadsTheOffset : Prop :=
  ∀ s : State,
    (s.mem.pay.length ≠ 2 → exec .decBackp s = .next { s with status := 0x61 }) ∧
    (∀ b0 b1, s.mem.pay = [b0, b1] → exec .decBackp s = .next { s with fOffset := b0 ++ b1, status := 0x00 })

/-! ## Correlator -/

/-- 45_correlator R181. -/
def Obligations.TokAllocDeliversTheCounter : Prop :=
  ∀ s : State, s.cfg.hasCorr = true → exec .tokAlloc s = .next { s with
    fToken := s.tokCnt, tokCnt := BitVec.ofNat 10 ((s.tokCnt.toNat + 1) % 1024), status := 0x00 }

/-- 45_correlator R184 with `first_free` of R183 and the key of 10_state R49; `s.entry k` is entry `k` of the table (R48). -/
def Obligations.CamInsFillsTheLowestFreeSlot : Prop :=
  ∀ s : State, s.cfg.hasCorr = true →
    ((∀ k < s.cfg.camDepth, (s.entry k).valid = true) → exec .camIns s = .next { s with status := 0x04 }) ∧
    (∀ k < s.cfg.camDepth, (s.entry k).valid = false → (∀ j < k, (s.entry j).valid = true) →
      exec .camIns s = .next { s with
        cam := s.cam.set k { valid := true, proto := s.kProto, pipe := s.kPipe, addr := s.kAddr, rid := s.fRid,
                             token := s.fToken, useCode := s.kUseCode,
                             code := if s.kUseCode = 1 then s.fCode else 0, tag := s.kTag },
        rSlot := BitVec.ofNat 8 k, status := 0x00 }) ∧
    (∀ k < s.cam.length, s.cam[k]? = some (s.entry k))

/-- 45_correlator R185 with the matching of R182, R183. Under `LOWEST_SLOT` the least matching slot answers; under `ANY`
some matching slot does; nothing is said of which, nor of the model's own counter of choices (log 5). -/
def Obligations.CamLookReportsAMatchingSlot : Prop :=
  ∀ s : State, s.cfg.hasCorr = true →
    (s.cfg.camMatchPolicy = .lowestSlot → (∀ k < s.cfg.camDepth, ¬slotHasKey s k) →
      exec .camLook s = .next { s with flags := withFlag s.flags .hit false, status := 0x00 }) ∧
    (∀ k < s.cfg.camDepth, s.cfg.camMatchPolicy = .lowestSlot → slotHasKey s k → (∀ j < k, ¬slotHasKey s j) →
      exec .camLook s = .next { s with flags := withFlag s.flags .hit true, rTag := (s.entry k).tag,
                                       rSlot := BitVec.ofNat 8 k, status := 0x00 }) ∧
    (s.cfg.camMatchPolicy = .any → (∀ k < s.cfg.camDepth, ¬slotHasKey s k) →
      ∃ n, exec .camLook s =
        .next { s with flags := withFlag s.flags .hit false, freeCount := n, status := 0x00 }) ∧
    (s.cfg.camMatchPolicy = .any → (∃ k < s.cfg.camDepth, slotHasKey s k) →
      ∃ k < s.cfg.camDepth, slotHasKey s k ∧ ∃ n,
        exec .camLook s = .next { s with flags := withFlag s.flags .hit true, rTag := (s.entry k).tag,
                                         rSlot := BitVec.ofNat 8 k, freeCount := n, status := 0x00 })

/-- 45_correlator R186 with the matching of R182, R183: as `CAM_LOOK`, and the slot that answers is invalid afterwards. -/
def Obligations.CamTakeRemovesTheSlotThatAnswers : Prop :=
  ∀ s : State, s.cfg.hasCorr = true →
    (s.cfg.camMatchPolicy = .lowestSlot → (∀ k < s.cfg.camDepth, ¬slotHasKey s k) →
      exec .camTake s = .next { s with flags := withFlag s.flags .hit false, status := 0x00 }) ∧
    (∀ k < s.cfg.camDepth, s.cfg.camMatchPolicy = .lowestSlot → slotHasKey s k → (∀ j < k, ¬slotHasKey s j) →
      exec .camTake s = .next { s with flags := withFlag s.flags .hit true, rTag := (s.entry k).tag,
                                       rSlot := BitVec.ofNat 8 k,
                                       cam := s.cam.set k { s.entry k with valid := false }, status := 0x00 }) ∧
    (s.cfg.camMatchPolicy = .any → (∀ k < s.cfg.camDepth, ¬slotHasKey s k) →
      ∃ n, exec .camTake s =
        .next { s with flags := withFlag s.flags .hit false, freeCount := n, status := 0x00 }) ∧
    (s.cfg.camMatchPolicy = .any → (∃ k < s.cfg.camDepth, slotHasKey s k) →
      ∃ k < s.cfg.camDepth, slotHasKey s k ∧ ∃ n,
        exec .camTake s = .next { s with flags := withFlag s.flags .hit true, rTag := (s.entry k).tag,
                                         rSlot := BitVec.ofNat 8 k,
                                         cam := s.cam.set k { s.entry k with valid := false },
                                         freeCount := n, status := 0x00 })

/-- 45_correlator R187. -/
def Obligations.CamDelRemovesByNumber : Prop :=
  ∀ (s : State) (imm8 : Byte), s.cfg.hasCorr = true →
    (s.cfg.camDepth ≤ imm8.toNat → exec (.camDel imm8) s = .next { s with status := 0xA2 }) ∧
    (imm8.toNat < s.cfg.camDepth → exec (.camDel imm8) s = .next { s with
      flags := withFlag s.flags .hit (s.entry imm8.toNat).valid,
      cam := s.cam.set imm8.toNat { s.entry imm8.toNat with valid := false }, status := 0x00 })

/-- 30_encoding R112: without a correlator the opcodes 0x60 to 0x64 are reserved encodings, whatever the immediate. That the
five meanings, asked directly, do what a reserved encoding does is the model's choice (DESIGN CHOICE, log 10). -/
def Obligations.AbsentCorrelatorOpcodesAreReserved : Prop :=
  ∀ (s : State) (imm8 : Byte) (rest : List Transaction), s.cfg.hasCorr = false →
    (∀ opc ∈ [0x60#8, 0x61#8, 0x62#8, 0x63#8, 0x64#8],
      step { s with pending := .cmd (opc ++ imm8) :: rest } =
        .next { s with pending := rest, reply := .none, status := 0x03 }) ∧
    (∀ i ∈ [Instr.tokAlloc, .camIns, .camLook, .camTake, .camDel imm8], exec i s = .next { s with status := 0x03 })

/-- 45_correlator R188: once a command reports a hit on slot `k` and invalidates it, then for as long as no `CAM_INS` fills
`k` again, no command reports a hit on `k`; so at most one command takes what one `CAM_INS` stored. A `CAM_TAKE` that hits
delivers the tag of the slot it takes. -/
def Obligations.AnEntryIsTakenAtMostOnce : Prop :=
  ∀ (s u : State) (i : Instr) (k : Nat), StateWf s → exec i s = .next u → i ≠ .camLook → reportsHitOn k i u →
    (s.entry k).valid = true ∧ (u.entry k).valid = false ∧ (i = .camTake → u.rTag = (s.entry k).tag) ∧
    ∀ (n : Nat) (t : State), neverFills k n u → core.run n u = .next t →
      (t.entry k).valid = false ∧ ∀ (j : Instr) (v : State), exec j t = .next v → ¬reportsHitOn k j v

/-! ## Outcomes and frames, for every instruction -/

/-- 60_exceptions R221 and 00_scope R15: a command that does not end in `done` changes nothing but `STATUS`. -/
def Obligations.AFailureChangesOnlyStatus : Prop :=
  ∀ (i : Instr) (s t : State), exec i s = .next t → t.status.extractLsb' 0 4 ≠ 0 → t = { s with status := t.status }

/-- 60_exceptions R213 and R210: every instruction ends in a next state whose `STATUS` is in the list, and the commands
named there never fail once decoded. -/
def Obligations.StatusIsAlwaysAListedValue : Prop :=
  (∀ (i : Instr) (s : State), ∃ t, exec i s = .next t ∧ t.status ∈ statusValues) ∧
  (∀ (i : Instr) (s : State), neverFails i = true → i.Wf s.cfg → ∃ t, exec i s = .next t ∧ t.status = 0x00) ∧
  (∀ (s t : State) (w : Word16), s.pending.head? = some (.cmd w) → step s = .next t → t.status ∈ statusValues)

/-- The frame of the registers (10_state R35 to R47) and of the table (20_memory R66): a register outside the instruction's
row keeps its value, the table is written only by the instructions that name an entry, and the configuration and the
host's side of the port are never touched. -/
def Obligations.RegistersOutsideTheRowAreUnchanged : Prop :=
  ∀ (i : Instr) (s t : State), exec i s = .next t →
    (∀ r : Reg, r ∉ mayWrite i → t.readReg r = s.readReg r) ∧
    (mayWriteTable i = false → t.cam = s.cam) ∧ t.cfg = s.cfg ∧ t.pending = s.pending ∧ t.reply = s.reply ∧
    (i ≠ .camLook → i ≠ .camTake → t.freeCount = s.freeCount)

/-- 20_memory R64: every byte of a buffer the instruction does not replace reads as before; on a failure, every byte of
both buffers. A byte reads as the one at its index, and as none at or beyond the length (R60). -/
def Obligations.BuffersOutsideTheTableAreUnchanged : Prop :=
  (∀ (m : Memory) (a : Nat), m.byte .wire a = m.wire[a]? ∧ m.byte .pay a = m.pay[a]?) ∧
  ∀ (i : Instr) (s t : State), exec i s = .next t →
    (∀ b a, b ∉ mayReplace i → t.mem.byte b a = s.mem.byte b a) ∧
    (t.status.extractLsb' 0 4 ≠ 0 → ∀ b a, t.mem.byte b a = s.mem.byte b a)

/-- 10_state R37: where the four flags stand, that writing one leaves the other three, and that a flag no row names for the
instruction keeps its value. -/
def Obligations.FlagsKeepTheirValuesOtherwise : Prop :=
  (flagBit .crcok = 0 ∧ flagBit .rsvd = 1 ∧ flagBit .errp = 2 ∧ flagBit .hit = 3) ∧
  (∀ (flags : BitVec 4) (f : Flag), flagOf flags f = flags.getLsbD (flagBit f)) ∧
  (∀ (flags : BitVec 4) (f g : Flag) (v : Bool),
    flagOf (withFlag flags f v) g = if g = f then v else flagOf flags g) ∧
  (∀ (i : Instr) (s t : State) (f : Flag), exec i s = .next t → f ∉ mayWriteFlag i →
    flagOf t.flags f = flagOf s.flags f)

/-- 20_memory R72, its third sentence: a codec command issued twice in a row leaves the state the first left. -/
def Obligations.CodecCommandsAreIdempotent : Prop :=
  ∀ (i : Instr) (s t : State), idempotentCodec i = true → exec i s = .next t → exec i t = .next t

/-! ## Reset, the host port and the machine's invariant -/

/-- 10_state R51, for every configuration; the model's own fields start empty (logs 1, 5). -/
def Obligations.ResetStateHoldsTheTable : Prop :=
  ∀ c : Config, atReset c (State.resetWith c) ∧ (State.resetWith c).pending = [] ∧
    (State.resetWith c).reply = .none ∧ (State.resetWith c).freeCount = 0

/-- 70_reset_and_hazards R232: the command `SRST` (word 0x0100) and the transaction `Reset` reach the same state, which is
the table of 10_state R51. The waiting list is the model's own field (log 1). -/
def Obligations.SrstAndResetReachTheSameState : Prop :=
  ∀ (s : State) (rest : List Transaction), ∃ t,
    step { s with pending := .cmd 0x0100 :: rest } = .next t ∧ step { s with pending := .reset :: rest } = .next t ∧
    atReset s.cfg t ∧ t.pending = rest

/-- 10_state R23: a transaction is carried out when it is inside the interface and refused when it is not (60_exceptions
R216: every state has a successor under every transaction inside the interface). That a `RegWrite` of a value wider than the
register, which R23 says the port cannot carry, is refused is the model's choice (DEDUCED, log 11); the waiting list is the
model's own field (log 1). -/
def Obligations.PortRefusesExactlyWhatIsOutside : Prop :=
  ∀ (s : State) (tr : Transaction) (rest : List Transaction),
    (Transaction.wf s.cfg tr = true → ∃ t, step { s with pending := tr :: rest } = .next t ∧ t.pending = rest) ∧
    (Transaction.wf s.cfg tr = false → ∃ r, step { s with pending := tr :: rest } = .refused r)

/-- 10_state R26, row by row: number and width of each register, which the host may write, and which numbers name a
register of a configuration; the width of a length view is the least that holds the capacity (R40, R41). -/
def Obligations.RegisterMapIsTheTable : Prop :=
  (∀ c : Config, allRegs.map (fun r => (r, regNumber r, regWidth c r)) =
    [(.status, 0x00, 8), (.flags, 0x01, 4), (.fCode, 0x02, 3), (.fBf, 0x03, 1), (.fRid, 0x04, 10), (.fToken, 0x05, 10),
      (.fPlen, 0x06, 8), (.fCrc, 0x07, 16), (.fTotal, 0x08, 16), (.fOffset, 0x09, 16), (.wlen, 0x0A, bitsToHold c.wireCap),
      (.payn, 0x0B, bitsToHold c.payCap), (.crcAcc, 0x0C, 16), (.rErr, 0x0D, 7), (.rRoute, 0x0E, 3), (.tokCnt, 0x10, 10),
      (.kProto, 0x11, c.protoW), (.kPipe, 0x12, c.pipeW), (.kAddr, 0x13, c.addrW), (.kUseCode, 0x14, 1),
      (.kTag, 0x15, c.tagW), (.rTag, 0x16, c.tagW), (.rSlot, 0x17, 8)]) ∧
  (∀ r : Reg, r ∈ allRegs ∧ regOfNumber (regNumber r) = some r) ∧
  (∀ (c : Config) (n : Nat), regPresent c n = true ↔ n ≤ 0x0E ∨ (0x10 ≤ n ∧ n ≤ 0x17 ∧ c.hasCorr = true)) ∧
  (∀ r : Reg, regWritable r = true ↔
    r ∈ [.fCode, .fBf, .fRid, .fToken, .fPlen, .fCrc, .fTotal, .fOffset, .crcAcc, .kProto, .kPipe, .kAddr, .kUseCode, .kTag]) ∧
  (∀ n : Nat, n < 2 ^ bitsToHold n ∧ ∀ w, n < 2 ^ w → bitsToHold n ≤ w)

/-- 10_state R21, 20_memory R63: a read returns the register's value or the buffer's bytes and changes nothing else, and a
`Load` within the capacity replaces the whole buffer and writes no register but the length view; a longer one is outside the
interface. What each register number of 10_state R26 returns is said register by register (R27 to R34, R36 to R47), `WLEN` and
`PAYN` being the lengths of the buffers (R40, R41); `readReg` is the same value under the register's name. The waiting list
and the reply are the model's own fields (log 1). -/
def Obligations.ReadsAndLoadsDoOnlyWhatTheySay : Prop :=
  ∀ (s : State) (rest : List Transaction),
    (∀ row ∈ [(0x00, s.status.toNat), (0x01, s.flags.toNat), (0x02, s.fCode.toNat), (0x03, s.fBf.toNat),
        (0x04, s.fRid.toNat), (0x05, s.fToken.toNat), (0x06, s.fPlen.toNat), (0x07, s.fCrc.toNat), (0x08, s.fTotal.toNat),
        (0x09, s.fOffset.toNat), (0x0A, s.mem.wire.length), (0x0B, s.mem.pay.length), (0x0C, s.crcAcc.toNat),
        (0x0D, s.rErr.toNat), (0x0E, s.rRoute.toNat)],
      step { s with pending := .regRead row.1 :: rest } = .next { s with pending := rest, reply := .value row.2 }) ∧
    (s.cfg.hasCorr = true →
      ∀ row ∈ [(0x10, s.tokCnt.toNat), (0x11, s.kProto), (0x12, s.kPipe), (0x13, s.kAddr), (0x14, s.kUseCode.toNat),
        (0x15, s.kTag), (0x16, s.rTag), (0x17, s.rSlot.toNat)],
      step { s with pending := .regRead row.1 :: rest } = .next { s with pending := rest, reply := .value row.2 }) ∧
    (∀ r : Reg, (regIsCorrelator r = true → s.cfg.hasCorr = true) →
      step { s with pending := .regRead (regNumber r) :: rest } =
        .next { s with pending := rest, reply := .value (s.readReg r) }) ∧
    step { s with pending := .read .wire :: rest } = .next { s with pending := rest, reply := .bytes s.mem.wire } ∧
    step { s with pending := .read .pay :: rest } = .next { s with pending := rest, reply := .bytes s.mem.pay } ∧
    (∀ bytes : List Byte, bytes.length ≤ s.cfg.wireCap → step { s with pending := .load .wire bytes :: rest } =
      .next { s with pending := rest, reply := .none, mem := { s.mem with wire := bytes } }) ∧
    (∀ bytes : List Byte, bytes.length ≤ s.cfg.payCap → step { s with pending := .load .pay bytes :: rest } =
      .next { s with pending := rest, reply := .none, mem := { s.mem with pay := bytes } }) ∧
    (∀ bytes : List Byte, s.cfg.wireCap < bytes.length →
      ∃ r, step { s with pending := .load .wire bytes :: rest } = .refused r) ∧
    (∀ bytes : List Byte, s.cfg.payCap < bytes.length →
      ∃ r, step { s with pending := .load .pay bytes :: rest } = .refused r)

/-- 10_state R21, R23, R35: after `RegWrite(n, v)` the register reads `v` and every other register, both buffers and the
table are as before. The waiting list and the reply are the model's own fields (log 1). -/
def Obligations.RegWriteIsReadBackAndChangesNothingElse : Prop :=
  ∀ (s : State) (r : Reg) (v : Nat) (rest : List Transaction), regWritable r = true →
    (regIsCorrelator r = true → s.cfg.hasCorr = true) → v < 2 ^ regWidth s.cfg r →
    ∃ t, step { s with pending := .regWrite (regNumber r) v :: rest } = .next t ∧ t.readReg r = v ∧
      (∀ q, q ≠ r → t.readReg q = s.readReg q) ∧ (∀ b a, t.mem.byte b a = s.mem.byte b a) ∧ t.cam = s.cam ∧
      t.cfg = s.cfg ∧ t.pending = rest ∧ t.reply = .none ∧ t.freeCount = s.freeCount

/-- 10_state R25, 70_reset R234: no transaction changes the configuration; 20_memory R75: transactions take effect one at
a time in the order the host issues them; 60_exceptions R227: with none waiting DFC holds its state. The waiting
list is the model's own field (log 1). -/
def Obligations.TransactionsInOrderConfigurationFixed : Prop :=
  ∀ s : State, (∀ t, step s = .next t → t.cfg = s.cfg ∧ t.pending = s.pending.tail) ∧ (s.pending = [] → step s = .next s)

/-- The invariant holds after reset, in every legal configuration and so in `State.reset` (10_state R51). -/
def Obligations.ResetIsWellFormed : Prop := (∀ c : Config, c.Wf → StateWf (State.resetWith c)) ∧ StateWf State.reset

/-- Every step keeps the invariant: buffers within capacity (20_memory R60 to R62, R82), `STATUS` listed (60_exceptions
R213), routes listed (41_frame R134), the table of its size with parts of their widths (10_state R44 to R48). -/
def Obligations.EveryStepKeepsTheInvariant : Prop := ∀ s t : State, StateWf s → step s = .next t → StateWf t
end

