-- ==== Sys2Proof/Laws/Memory.lean ====
section
/-! SUPPORT. The laws of the buffers: read after write, a write leaves the other buffer alone, and every operation on the
memory keeps its form (20_memory R60 to R63). -/

namespace Sys2Proof.Machine

@[simp] theorem Memory.content_wire (m : Memory) : m.content .wire = m.wire := rfl
@[simp] theorem Memory.content_pay (m : Memory) : m.content .pay = m.pay := rfl
@[simp] theorem Memory.replace_wire (m : Memory) (s : List Byte) : m.replace .wire s = ⟨s, m.pay⟩ := rfl
@[simp] theorem Memory.replace_pay (m : Memory) (s : List Byte) : m.replace .pay s = ⟨m.wire, s⟩ := rfl

/-- A read after a replacement of the same buffer gives the bytes written. -/
theorem Memory.content_replace_same (m : Memory) (b : Buf) (s : List Byte) : (m.replace b s).content b = s := by
  cases b <;> rfl

/-- A replacement leaves the other buffer alone. -/
theorem Memory.content_replace_other (m : Memory) {b c : Buf} (s : List Byte) (h : c ≠ b) :
    (m.replace b s).content c = m.content c := by
  cases b <;> cases c <;> first | rfl | exact absurd rfl h

/-- The same for one byte, with the byte at or beyond the length absent. -/
theorem Memory.byte_replace (m : Memory) (b c : Buf) (s : List Byte) (i : Nat) :
    (m.replace b s).byte c i = if c = b then s[i]? else m.byte c i := by
  split
  · next h => subst h; rw [Memory.byte, Memory.content_replace_same]
  · next h => rw [Memory.byte, Memory.content_replace_other m s h, Memory.byte]

/-- Two memories that read alike at every index of both buffers are equal: the form is canonical. -/
theorem Memory.ext_byte (m n : Memory) (h : ∀ b i, m.byte b i = n.byte b i) : m = n := by
  have hw : m.wire = n.wire := List.ext_getElem? fun i => h .wire i
  have hp : m.pay = n.pay := List.ext_getElem? fun i => h .pay i
  cases m
  cases n
  simp_all

/-- The form of the memory in terms of both buffers' contents. -/
theorem Memory.wf_iff (c : Config) (m : Memory) : m.wf c ↔ ∀ b, (m.content b).length ≤ bufCap c b :=
  ⟨fun h b => by cases b; exacts [h.1, h.2], fun h => ⟨h .wire, h .pay⟩⟩

/-- The one store there is keeps the form, for a sequence within the buffer's capacity. -/
theorem Memory.wf_replace (c : Config) (m : Memory) (b : Buf) (s : List Byte) (h : m.wf c) (hs : s.length ≤ bufCap c b) :
    (m.replace b s).wf c := by
  cases b
  exacts [⟨hs, h.2⟩, ⟨h.1, hs⟩]

/-- The memory after reset has the form. -/
theorem Memory.wf_resetWith (c : Config) : (State.resetWith c).mem.wf c := ⟨Nat.zero_le _, Nat.zero_le _⟩

/-- The memory of `State.reset` has the form. -/
theorem Memory.wf_reset : State.reset.mem.wf State.reset.cfg := Memory.wf_resetWith _

@[simp] theorem headWord_cons (b0 b1 b2 b3 : Byte) (rest : List Byte) :
    headWord (b0 :: b1 :: b2 :: b3 :: rest) = u32 b0 b1 b2 b3 := rfl

@[simp] theorem be16_length (v : Word16) : (be16 v).length = 2 := rfl

@[simp] theorem be32_length (v : Word32) : (be32 v).length = 4 := rfl

@[simp] theorem bhPack_length (h : BlockHeader) : (bhPack h).length = 6 := rfl

/-- A run of bytes is never longer than it was asked for. -/
theorem slice_length_le (s : List Byte) (a n : Nat) : (slice s a n).length ≤ n := by
  simp only [slice, List.length_take]
  omega

/-- A run that lies inside the sequence has the length asked for. -/
theorem slice_length (s : List Byte) (a n : Nat) (h : a + n ≤ s.length) : (slice s a n).length = n := by
  simp only [slice, List.length_take, List.length_drop]
  omega

/-- A datagram of four bytes or more, byte by byte. -/
theorem exists_four_bytes (s : List Byte) (h : 4 ≤ s.length) :
    ∃ b0 b1 b2 b3 rest, s = b0 :: b1 :: b2 :: b3 :: rest := by
  match s, h with
  | b0 :: b1 :: b2 :: b3 :: rest, _ => exact ⟨b0, b1, b2, b3, rest, rfl⟩

/-- Six bytes or more, byte by byte. -/
theorem exists_six_bytes (s : List Byte) (h : 6 ≤ s.length) :
    ∃ b0 b1 b2 b3 b4 b5 rest, s = b0 :: b1 :: b2 :: b3 :: b4 :: b5 :: rest := by
  match s, h with
  | b0 :: b1 :: b2 :: b3 :: b4 :: b5 :: rest, _ => exact ⟨b0, b1, b2, b3, b4, b5, rest, rfl⟩

end Sys2Proof.Machine
end

