-- ==== Sys2Proof/Laws/State.lean ====
section
/-! SUPPORT. One lemma per field per named update of the state, each true by rfl, so that no proof unfolds an update. -/

namespace Sys2Proof.Machine

section
variable (s : State) (st : St) (cause : Cause)

@[simp] theorem State.setStatus_cfg : (s.setStatus st cause).cfg = s.cfg := rfl
@[simp] theorem State.setStatus_status : (s.setStatus st cause).status = statusByte st cause := rfl
@[simp] theorem State.setStatus_flags : (s.setStatus st cause).flags = s.flags := rfl
@[simp] theorem State.setStatus_fCode : (s.setStatus st cause).fCode = s.fCode := rfl
@[simp] theorem State.setStatus_fBf : (s.setStatus st cause).fBf = s.fBf := rfl
@[simp] theorem State.setStatus_fRid : (s.setStatus st cause).fRid = s.fRid := rfl
@[simp] theorem State.setStatus_fToken : (s.setStatus st cause).fToken = s.fToken := rfl
@[simp] theorem State.setStatus_fPlen : (s.setStatus st cause).fPlen = s.fPlen := rfl
@[simp] theorem State.setStatus_fCrc : (s.setStatus st cause).fCrc = s.fCrc := rfl
@[simp] theorem State.setStatus_fTotal : (s.setStatus st cause).fTotal = s.fTotal := rfl
@[simp] theorem State.setStatus_fOffset : (s.setStatus st cause).fOffset = s.fOffset := rfl
@[simp] theorem State.setStatus_mem : (s.setStatus st cause).mem = s.mem := rfl
@[simp] theorem State.setStatus_crcAcc : (s.setStatus st cause).crcAcc = s.crcAcc := rfl
@[simp] theorem State.setStatus_rErr : (s.setStatus st cause).rErr = s.rErr := rfl
@[simp] theorem State.setStatus_rRoute : (s.setStatus st cause).rRoute = s.rRoute := rfl
@[simp] theorem State.setStatus_tokCnt : (s.setStatus st cause).tokCnt = s.tokCnt := rfl
@[simp] theorem State.setStatus_kProto : (s.setStatus st cause).kProto = s.kProto := rfl
@[simp] theorem State.setStatus_kPipe : (s.setStatus st cause).kPipe = s.kPipe := rfl
@[simp] theorem State.setStatus_kAddr : (s.setStatus st cause).kAddr = s.kAddr := rfl
@[simp] theorem State.setStatus_kUseCode : (s.setStatus st cause).kUseCode = s.kUseCode := rfl
@[simp] theorem State.setStatus_kTag : (s.setStatus st cause).kTag = s.kTag := rfl
@[simp] theorem State.setStatus_rTag : (s.setStatus st cause).rTag = s.rTag := rfl
@[simp] theorem State.setStatus_rSlot : (s.setStatus st cause).rSlot = s.rSlot := rfl
@[simp] theorem State.setStatus_cam : (s.setStatus st cause).cam = s.cam := rfl
@[simp] theorem State.setStatus_freeCount : (s.setStatus st cause).freeCount = s.freeCount := rfl
@[simp] theorem State.setStatus_pending : (s.setStatus st cause).pending = s.pending := rfl
@[simp] theorem State.setStatus_reply : (s.setStatus st cause).reply = s.reply := rfl

end

section
variable (s : State) (b : Buf) (bytes : List Byte)

@[simp] theorem State.setBuf_cfg : (s.setBuf b bytes).cfg = s.cfg := rfl
@[simp] theorem State.setBuf_status : (s.setBuf b bytes).status = s.status := rfl
@[simp] theorem State.setBuf_flags : (s.setBuf b bytes).flags = s.flags := rfl
@[simp] theorem State.setBuf_fCode : (s.setBuf b bytes).fCode = s.fCode := rfl
@[simp] theorem State.setBuf_fBf : (s.setBuf b bytes).fBf = s.fBf := rfl
@[simp] theorem State.setBuf_fRid : (s.setBuf b bytes).fRid = s.fRid := rfl
@[simp] theorem State.setBuf_fToken : (s.setBuf b bytes).fToken = s.fToken := rfl
@[simp] theorem State.setBuf_fPlen : (s.setBuf b bytes).fPlen = s.fPlen := rfl
@[simp] theorem State.setBuf_fCrc : (s.setBuf b bytes).fCrc = s.fCrc := rfl
@[simp] theorem State.setBuf_fTotal : (s.setBuf b bytes).fTotal = s.fTotal := rfl
@[simp] theorem State.setBuf_fOffset : (s.setBuf b bytes).fOffset = s.fOffset := rfl
@[simp] theorem State.setBuf_mem : (s.setBuf b bytes).mem = s.mem.replace b bytes := rfl
@[simp] theorem State.setBuf_crcAcc : (s.setBuf b bytes).crcAcc = s.crcAcc := rfl
@[simp] theorem State.setBuf_rErr : (s.setBuf b bytes).rErr = s.rErr := rfl
@[simp] theorem State.setBuf_rRoute : (s.setBuf b bytes).rRoute = s.rRoute := rfl
@[simp] theorem State.setBuf_tokCnt : (s.setBuf b bytes).tokCnt = s.tokCnt := rfl
@[simp] theorem State.setBuf_kProto : (s.setBuf b bytes).kProto = s.kProto := rfl
@[simp] theorem State.setBuf_kPipe : (s.setBuf b bytes).kPipe = s.kPipe := rfl
@[simp] theorem State.setBuf_kAddr : (s.setBuf b bytes).kAddr = s.kAddr := rfl
@[simp] theorem State.setBuf_kUseCode : (s.setBuf b bytes).kUseCode = s.kUseCode := rfl
@[simp] theorem State.setBuf_kTag : (s.setBuf b bytes).kTag = s.kTag := rfl
@[simp] theorem State.setBuf_rTag : (s.setBuf b bytes).rTag = s.rTag := rfl
@[simp] theorem State.setBuf_rSlot : (s.setBuf b bytes).rSlot = s.rSlot := rfl
@[simp] theorem State.setBuf_cam : (s.setBuf b bytes).cam = s.cam := rfl
@[simp] theorem State.setBuf_freeCount : (s.setBuf b bytes).freeCount = s.freeCount := rfl
@[simp] theorem State.setBuf_pending : (s.setBuf b bytes).pending = s.pending := rfl
@[simp] theorem State.setBuf_reply : (s.setBuf b bytes).reply = s.reply := rfl

end

section
variable (s : State) (cw : ControlWord)

@[simp] theorem State.setControlWord_cfg : (s.setControlWord cw).cfg = s.cfg := rfl
@[simp] theorem State.setControlWord_status : (s.setControlWord cw).status = s.status := rfl
@[simp] theorem State.setControlWord_flags : (s.setControlWord cw).flags = s.flags := rfl
@[simp] theorem State.setControlWord_fCode : (s.setControlWord cw).fCode = cw.code := rfl
@[simp] theorem State.setControlWord_fBf : (s.setControlWord cw).fBf = cw.bf := rfl
@[simp] theorem State.setControlWord_fRid : (s.setControlWord cw).fRid = cw.rid := rfl
@[simp] theorem State.setControlWord_fToken : (s.setControlWord cw).fToken = cw.token := rfl
@[simp] theorem State.setControlWord_fPlen : (s.setControlWord cw).fPlen = cw.plen := rfl
@[simp] theorem State.setControlWord_fCrc : (s.setControlWord cw).fCrc = s.fCrc := rfl
@[simp] theorem State.setControlWord_fTotal : (s.setControlWord cw).fTotal = s.fTotal := rfl
@[simp] theorem State.setControlWord_fOffset : (s.setControlWord cw).fOffset = s.fOffset := rfl
@[simp] theorem State.setControlWord_mem : (s.setControlWord cw).mem = s.mem := rfl
@[simp] theorem State.setControlWord_crcAcc : (s.setControlWord cw).crcAcc = s.crcAcc := rfl
@[simp] theorem State.setControlWord_rErr : (s.setControlWord cw).rErr = s.rErr := rfl
@[simp] theorem State.setControlWord_rRoute : (s.setControlWord cw).rRoute = s.rRoute := rfl
@[simp] theorem State.setControlWord_tokCnt : (s.setControlWord cw).tokCnt = s.tokCnt := rfl
@[simp] theorem State.setControlWord_kProto : (s.setControlWord cw).kProto = s.kProto := rfl
@[simp] theorem State.setControlWord_kPipe : (s.setControlWord cw).kPipe = s.kPipe := rfl
@[simp] theorem State.setControlWord_kAddr : (s.setControlWord cw).kAddr = s.kAddr := rfl
@[simp] theorem State.setControlWord_kUseCode : (s.setControlWord cw).kUseCode = s.kUseCode := rfl
@[simp] theorem State.setControlWord_kTag : (s.setControlWord cw).kTag = s.kTag := rfl
@[simp] theorem State.setControlWord_rTag : (s.setControlWord cw).rTag = s.rTag := rfl
@[simp] theorem State.setControlWord_rSlot : (s.setControlWord cw).rSlot = s.rSlot := rfl
@[simp] theorem State.setControlWord_cam : (s.setControlWord cw).cam = s.cam := rfl
@[simp] theorem State.setControlWord_freeCount : (s.setControlWord cw).freeCount = s.freeCount := rfl
@[simp] theorem State.setControlWord_pending : (s.setControlWord cw).pending = s.pending := rfl
@[simp] theorem State.setControlWord_reply : (s.setControlWord cw).reply = s.reply := rfl

end

section
variable (s : State) (h : BlockHeader)

@[simp] theorem State.setBlockHeader_cfg : (s.setBlockHeader h).cfg = s.cfg := rfl
@[simp] theorem State.setBlockHeader_status : (s.setBlockHeader h).status = s.status := rfl
@[simp] theorem State.setBlockHeader_flags : (s.setBlockHeader h).flags = s.flags := rfl
@[simp] theorem State.setBlockHeader_fCode : (s.setBlockHeader h).fCode = s.fCode := rfl
@[simp] theorem State.setBlockHeader_fBf : (s.setBlockHeader h).fBf = s.fBf := rfl
@[simp] theorem State.setBlockHeader_fRid : (s.setBlockHeader h).fRid = s.fRid := rfl
@[simp] theorem State.setBlockHeader_fToken : (s.setBlockHeader h).fToken = s.fToken := rfl
@[simp] theorem State.setBlockHeader_fPlen : (s.setBlockHeader h).fPlen = s.fPlen := rfl
@[simp] theorem State.setBlockHeader_fCrc : (s.setBlockHeader h).fCrc = h.crc := rfl
@[simp] theorem State.setBlockHeader_fTotal : (s.setBlockHeader h).fTotal = h.total := rfl
@[simp] theorem State.setBlockHeader_fOffset : (s.setBlockHeader h).fOffset = h.offset := rfl
@[simp] theorem State.setBlockHeader_mem : (s.setBlockHeader h).mem = s.mem := rfl
@[simp] theorem State.setBlockHeader_crcAcc : (s.setBlockHeader h).crcAcc = s.crcAcc := rfl
@[simp] theorem State.setBlockHeader_rErr : (s.setBlockHeader h).rErr = s.rErr := rfl
@[simp] theorem State.setBlockHeader_rRoute : (s.setBlockHeader h).rRoute = s.rRoute := rfl
@[simp] theorem State.setBlockHeader_tokCnt : (s.setBlockHeader h).tokCnt = s.tokCnt := rfl
@[simp] theorem State.setBlockHeader_kProto : (s.setBlockHeader h).kProto = s.kProto := rfl
@[simp] theorem State.setBlockHeader_kPipe : (s.setBlockHeader h).kPipe = s.kPipe := rfl
@[simp] theorem State.setBlockHeader_kAddr : (s.setBlockHeader h).kAddr = s.kAddr := rfl
@[simp] theorem State.setBlockHeader_kUseCode : (s.setBlockHeader h).kUseCode = s.kUseCode := rfl
@[simp] theorem State.setBlockHeader_kTag : (s.setBlockHeader h).kTag = s.kTag := rfl
@[simp] theorem State.setBlockHeader_rTag : (s.setBlockHeader h).rTag = s.rTag := rfl
@[simp] theorem State.setBlockHeader_rSlot : (s.setBlockHeader h).rSlot = s.rSlot := rfl
@[simp] theorem State.setBlockHeader_cam : (s.setBlockHeader h).cam = s.cam := rfl
@[simp] theorem State.setBlockHeader_freeCount : (s.setBlockHeader h).freeCount = s.freeCount := rfl
@[simp] theorem State.setBlockHeader_pending : (s.setBlockHeader h).pending = s.pending := rfl
@[simp] theorem State.setBlockHeader_reply : (s.setBlockHeader h).reply = s.reply := rfl

end

section
variable (s : State) (f : Flag) (v : Bool)

@[simp] theorem State.setFlag_cfg : (s.setFlag f v).cfg = s.cfg := rfl
@[simp] theorem State.setFlag_status : (s.setFlag f v).status = s.status := rfl
@[simp] theorem State.setFlag_flags : (s.setFlag f v).flags = withFlag s.flags f v := rfl
@[simp] theorem State.setFlag_fCode : (s.setFlag f v).fCode = s.fCode := rfl
@[simp] theorem State.setFlag_fBf : (s.setFlag f v).fBf = s.fBf := rfl
@[simp] theorem State.setFlag_fRid : (s.setFlag f v).fRid = s.fRid := rfl
@[simp] theorem State.setFlag_fToken : (s.setFlag f v).fToken = s.fToken := rfl
@[simp] theorem State.setFlag_fPlen : (s.setFlag f v).fPlen = s.fPlen := rfl
@[simp] theorem State.setFlag_fCrc : (s.setFlag f v).fCrc = s.fCrc := rfl
@[simp] theorem State.setFlag_fTotal : (s.setFlag f v).fTotal = s.fTotal := rfl
@[simp] theorem State.setFlag_fOffset : (s.setFlag f v).fOffset = s.fOffset := rfl
@[simp] theorem State.setFlag_mem : (s.setFlag f v).mem = s.mem := rfl
@[simp] theorem State.setFlag_crcAcc : (s.setFlag f v).crcAcc = s.crcAcc := rfl
@[simp] theorem State.setFlag_rErr : (s.setFlag f v).rErr = s.rErr := rfl
@[simp] theorem State.setFlag_rRoute : (s.setFlag f v).rRoute = s.rRoute := rfl
@[simp] theorem State.setFlag_tokCnt : (s.setFlag f v).tokCnt = s.tokCnt := rfl
@[simp] theorem State.setFlag_kProto : (s.setFlag f v).kProto = s.kProto := rfl
@[simp] theorem State.setFlag_kPipe : (s.setFlag f v).kPipe = s.kPipe := rfl
@[simp] theorem State.setFlag_kAddr : (s.setFlag f v).kAddr = s.kAddr := rfl
@[simp] theorem State.setFlag_kUseCode : (s.setFlag f v).kUseCode = s.kUseCode := rfl
@[simp] theorem State.setFlag_kTag : (s.setFlag f v).kTag = s.kTag := rfl
@[simp] theorem State.setFlag_rTag : (s.setFlag f v).rTag = s.rTag := rfl
@[simp] theorem State.setFlag_rSlot : (s.setFlag f v).rSlot = s.rSlot := rfl
@[simp] theorem State.setFlag_cam : (s.setFlag f v).cam = s.cam := rfl
@[simp] theorem State.setFlag_freeCount : (s.setFlag f v).freeCount = s.freeCount := rfl
@[simp] theorem State.setFlag_pending : (s.setFlag f v).pending = s.pending := rfl
@[simp] theorem State.setFlag_reply : (s.setFlag f v).reply = s.reply := rfl

end

section
variable (s : State) (code : BitVec 3)

@[simp] theorem State.flagReserved_cfg : (s.flagReserved code).cfg = s.cfg := rfl
@[simp] theorem State.flagReserved_status : (s.flagReserved code).status = s.status := rfl
@[simp] theorem State.flagReserved_flags : (s.flagReserved code).flags = withFlag s.flags .rsvd (decide (codeClass s.cfg code = .reserved)) := rfl
@[simp] theorem State.flagReserved_fCode : (s.flagReserved code).fCode = s.fCode := rfl
@[simp] theorem State.flagReserved_fBf : (s.flagReserved code).fBf = s.fBf := rfl
@[simp] theorem State.flagReserved_fRid : (s.flagReserved code).fRid = s.fRid := rfl
@[simp] theorem State.flagReserved_fToken : (s.flagReserved code).fToken = s.fToken := rfl
@[simp] theorem State.flagReserved_fPlen : (s.flagReserved code).fPlen = s.fPlen := rfl
@[simp] theorem State.flagReserved_fCrc : (s.flagReserved code).fCrc = s.fCrc := rfl
@[simp] theorem State.flagReserved_fTotal : (s.flagReserved code).fTotal = s.fTotal := rfl
@[simp] theorem State.flagReserved_fOffset : (s.flagReserved code).fOffset = s.fOffset := rfl
@[simp] theorem State.flagReserved_mem : (s.flagReserved code).mem = s.mem := rfl
@[simp] theorem State.flagReserved_crcAcc : (s.flagReserved code).crcAcc = s.crcAcc := rfl
@[simp] theorem State.flagReserved_rErr : (s.flagReserved code).rErr = s.rErr := rfl
@[simp] theorem State.flagReserved_rRoute : (s.flagReserved code).rRoute = s.rRoute := rfl
@[simp] theorem State.flagReserved_tokCnt : (s.flagReserved code).tokCnt = s.tokCnt := rfl
@[simp] theorem State.flagReserved_kProto : (s.flagReserved code).kProto = s.kProto := rfl
@[simp] theorem State.flagReserved_kPipe : (s.flagReserved code).kPipe = s.kPipe := rfl
@[simp] theorem State.flagReserved_kAddr : (s.flagReserved code).kAddr = s.kAddr := rfl
@[simp] theorem State.flagReserved_kUseCode : (s.flagReserved code).kUseCode = s.kUseCode := rfl
@[simp] theorem State.flagReserved_kTag : (s.flagReserved code).kTag = s.kTag := rfl
@[simp] theorem State.flagReserved_rTag : (s.flagReserved code).rTag = s.rTag := rfl
@[simp] theorem State.flagReserved_rSlot : (s.flagReserved code).rSlot = s.rSlot := rfl
@[simp] theorem State.flagReserved_cam : (s.flagReserved code).cam = s.cam := rfl
@[simp] theorem State.flagReserved_freeCount : (s.flagReserved code).freeCount = s.freeCount := rfl
@[simp] theorem State.flagReserved_pending : (s.flagReserved code).pending = s.pending := rfl
@[simp] theorem State.flagReserved_reply : (s.flagReserved code).reply = s.reply := rfl

end

section
variable (s : State) (cw : ControlWord) (p : List Byte) (r : Route)

@[simp] theorem State.deliver_cfg : (s.deliver cw p r).cfg = s.cfg := rfl
@[simp] theorem State.deliver_status : (s.deliver cw p r).status = s.status := rfl
@[simp] theorem State.deliver_flags : (s.deliver cw p r).flags = withFlag s.flags .rsvd false := rfl
@[simp] theorem State.deliver_fCode : (s.deliver cw p r).fCode = cw.code := rfl
@[simp] theorem State.deliver_fBf : (s.deliver cw p r).fBf = cw.bf := rfl
@[simp] theorem State.deliver_fRid : (s.deliver cw p r).fRid = cw.rid := rfl
@[simp] theorem State.deliver_fToken : (s.deliver cw p r).fToken = cw.token := rfl
@[simp] theorem State.deliver_fPlen : (s.deliver cw p r).fPlen = cw.plen := rfl
@[simp] theorem State.deliver_fCrc : (s.deliver cw p r).fCrc = s.fCrc := rfl
@[simp] theorem State.deliver_fTotal : (s.deliver cw p r).fTotal = s.fTotal := rfl
@[simp] theorem State.deliver_fOffset : (s.deliver cw p r).fOffset = s.fOffset := rfl
@[simp] theorem State.deliver_mem : (s.deliver cw p r).mem = s.mem.replace .pay p := rfl
@[simp] theorem State.deliver_crcAcc : (s.deliver cw p r).crcAcc = s.crcAcc := rfl
@[simp] theorem State.deliver_rErr : (s.deliver cw p r).rErr = s.rErr := rfl
@[simp] theorem State.deliver_rRoute : (s.deliver cw p r).rRoute = routeBits r := rfl
@[simp] theorem State.deliver_tokCnt : (s.deliver cw p r).tokCnt = s.tokCnt := rfl
@[simp] theorem State.deliver_kProto : (s.deliver cw p r).kProto = s.kProto := rfl
@[simp] theorem State.deliver_kPipe : (s.deliver cw p r).kPipe = s.kPipe := rfl
@[simp] theorem State.deliver_kAddr : (s.deliver cw p r).kAddr = s.kAddr := rfl
@[simp] theorem State.deliver_kUseCode : (s.deliver cw p r).kUseCode = s.kUseCode := rfl
@[simp] theorem State.deliver_kTag : (s.deliver cw p r).kTag = s.kTag := rfl
@[simp] theorem State.deliver_rTag : (s.deliver cw p r).rTag = s.rTag := rfl
@[simp] theorem State.deliver_rSlot : (s.deliver cw p r).rSlot = s.rSlot := rfl
@[simp] theorem State.deliver_cam : (s.deliver cw p r).cam = s.cam := rfl
@[simp] theorem State.deliver_freeCount : (s.deliver cw p r).freeCount = s.freeCount := rfl
@[simp] theorem State.deliver_pending : (s.deliver cw p r).pending = s.pending := rfl
@[simp] theorem State.deliver_reply : (s.deliver cw p r).reply = s.reply := rfl

end

section
variable (s : State) (b : Byte)

@[simp] theorem State.setResetByte_cfg : (s.setResetByte b).cfg = s.cfg := rfl
@[simp] theorem State.setResetByte_status : (s.setResetByte b).status = s.status := rfl
@[simp] theorem State.setResetByte_flags : (s.setResetByte b).flags = withFlag s.flags .errp (resetMarker b) := rfl
@[simp] theorem State.setResetByte_fCode : (s.setResetByte b).fCode = s.fCode := rfl
@[simp] theorem State.setResetByte_fBf : (s.setResetByte b).fBf = s.fBf := rfl
@[simp] theorem State.setResetByte_fRid : (s.setResetByte b).fRid = s.fRid := rfl
@[simp] theorem State.setResetByte_fToken : (s.setResetByte b).fToken = s.fToken := rfl
@[simp] theorem State.setResetByte_fPlen : (s.setResetByte b).fPlen = s.fPlen := rfl
@[simp] theorem State.setResetByte_fCrc : (s.setResetByte b).fCrc = s.fCrc := rfl
@[simp] theorem State.setResetByte_fTotal : (s.setResetByte b).fTotal = s.fTotal := rfl
@[simp] theorem State.setResetByte_fOffset : (s.setResetByte b).fOffset = s.fOffset := rfl
@[simp] theorem State.setResetByte_mem : (s.setResetByte b).mem = s.mem := rfl
@[simp] theorem State.setResetByte_crcAcc : (s.setResetByte b).crcAcc = s.crcAcc := rfl
@[simp] theorem State.setResetByte_rErr : (s.setResetByte b).rErr = resetError b := rfl
@[simp] theorem State.setResetByte_rRoute : (s.setResetByte b).rRoute = s.rRoute := rfl
@[simp] theorem State.setResetByte_tokCnt : (s.setResetByte b).tokCnt = s.tokCnt := rfl
@[simp] theorem State.setResetByte_kProto : (s.setResetByte b).kProto = s.kProto := rfl
@[simp] theorem State.setResetByte_kPipe : (s.setResetByte b).kPipe = s.kPipe := rfl
@[simp] theorem State.setResetByte_kAddr : (s.setResetByte b).kAddr = s.kAddr := rfl
@[simp] theorem State.setResetByte_kUseCode : (s.setResetByte b).kUseCode = s.kUseCode := rfl
@[simp] theorem State.setResetByte_kTag : (s.setResetByte b).kTag = s.kTag := rfl
@[simp] theorem State.setResetByte_rTag : (s.setResetByte b).rTag = s.rTag := rfl
@[simp] theorem State.setResetByte_rSlot : (s.setResetByte b).rSlot = s.rSlot := rfl
@[simp] theorem State.setResetByte_cam : (s.setResetByte b).cam = s.cam := rfl
@[simp] theorem State.setResetByte_freeCount : (s.setResetByte b).freeCount = s.freeCount := rfl
@[simp] theorem State.setResetByte_pending : (s.setResetByte b).pending = s.pending := rfl
@[simp] theorem State.setResetByte_reply : (s.setResetByte b).reply = s.reply := rfl

end

section
variable (s : State) (i : Nat)

@[simp] theorem State.reportHit_cfg : (s.reportHit i).cfg = s.cfg := rfl
@[simp] theorem State.reportHit_status : (s.reportHit i).status = s.status := rfl
@[simp] theorem State.reportHit_flags : (s.reportHit i).flags = withFlag s.flags .hit true := rfl
@[simp] theorem State.reportHit_fCode : (s.reportHit i).fCode = s.fCode := rfl
@[simp] theorem State.reportHit_fBf : (s.reportHit i).fBf = s.fBf := rfl
@[simp] theorem State.reportHit_fRid : (s.reportHit i).fRid = s.fRid := rfl
@[simp] theorem State.reportHit_fToken : (s.reportHit i).fToken = s.fToken := rfl
@[simp] theorem State.reportHit_fPlen : (s.reportHit i).fPlen = s.fPlen := rfl
@[simp] theorem State.reportHit_fCrc : (s.reportHit i).fCrc = s.fCrc := rfl
@[simp] theorem State.reportHit_fTotal : (s.reportHit i).fTotal = s.fTotal := rfl
@[simp] theorem State.reportHit_fOffset : (s.reportHit i).fOffset = s.fOffset := rfl
@[simp] theorem State.reportHit_mem : (s.reportHit i).mem = s.mem := rfl
@[simp] theorem State.reportHit_crcAcc : (s.reportHit i).crcAcc = s.crcAcc := rfl
@[simp] theorem State.reportHit_rErr : (s.reportHit i).rErr = s.rErr := rfl
@[simp] theorem State.reportHit_rRoute : (s.reportHit i).rRoute = s.rRoute := rfl
@[simp] theorem State.reportHit_tokCnt : (s.reportHit i).tokCnt = s.tokCnt := rfl
@[simp] theorem State.reportHit_kProto : (s.reportHit i).kProto = s.kProto := rfl
@[simp] theorem State.reportHit_kPipe : (s.reportHit i).kPipe = s.kPipe := rfl
@[simp] theorem State.reportHit_kAddr : (s.reportHit i).kAddr = s.kAddr := rfl
@[simp] theorem State.reportHit_kUseCode : (s.reportHit i).kUseCode = s.kUseCode := rfl
@[simp] theorem State.reportHit_kTag : (s.reportHit i).kTag = s.kTag := rfl
@[simp] theorem State.reportHit_rTag : (s.reportHit i).rTag = (s.entry i).tag := rfl
@[simp] theorem State.reportHit_rSlot : (s.reportHit i).rSlot = BitVec.ofNat 8 i := rfl
@[simp] theorem State.reportHit_cam : (s.reportHit i).cam = s.cam := rfl
@[simp] theorem State.reportHit_freeCount : (s.reportHit i).freeCount = s.freeCount := rfl
@[simp] theorem State.reportHit_pending : (s.reportHit i).pending = s.pending := rfl
@[simp] theorem State.reportHit_reply : (s.reportHit i).reply = s.reply := rfl

end

section
variable (s : State) (i : Nat) (e : CamEntry)

@[simp] theorem State.setEntry_cfg : (s.setEntry i e).cfg = s.cfg := rfl
@[simp] theorem State.setEntry_status : (s.setEntry i e).status = s.status := rfl
@[simp] theorem State.setEntry_flags : (s.setEntry i e).flags = s.flags := rfl
@[simp] theorem State.setEntry_fCode : (s.setEntry i e).fCode = s.fCode := rfl
@[simp] theorem State.setEntry_fBf : (s.setEntry i e).fBf = s.fBf := rfl
@[simp] theorem State.setEntry_fRid : (s.setEntry i e).fRid = s.fRid := rfl
@[simp] theorem State.setEntry_fToken : (s.setEntry i e).fToken = s.fToken := rfl
@[simp] theorem State.setEntry_fPlen : (s.setEntry i e).fPlen = s.fPlen := rfl
@[simp] theorem State.setEntry_fCrc : (s.setEntry i e).fCrc = s.fCrc := rfl
@[simp] theorem State.setEntry_fTotal : (s.setEntry i e).fTotal = s.fTotal := rfl
@[simp] theorem State.setEntry_fOffset : (s.setEntry i e).fOffset = s.fOffset := rfl
@[simp] theorem State.setEntry_mem : (s.setEntry i e).mem = s.mem := rfl
@[simp] theorem State.setEntry_crcAcc : (s.setEntry i e).crcAcc = s.crcAcc := rfl
@[simp] theorem State.setEntry_rErr : (s.setEntry i e).rErr = s.rErr := rfl
@[simp] theorem State.setEntry_rRoute : (s.setEntry i e).rRoute = s.rRoute := rfl
@[simp] theorem State.setEntry_tokCnt : (s.setEntry i e).tokCnt = s.tokCnt := rfl
@[simp] theorem State.setEntry_kProto : (s.setEntry i e).kProto = s.kProto := rfl
@[simp] theorem State.setEntry_kPipe : (s.setEntry i e).kPipe = s.kPipe := rfl
@[simp] theorem State.setEntry_kAddr : (s.setEntry i e).kAddr = s.kAddr := rfl
@[simp] theorem State.setEntry_kUseCode : (s.setEntry i e).kUseCode = s.kUseCode := rfl
@[simp] theorem State.setEntry_kTag : (s.setEntry i e).kTag = s.kTag := rfl
@[simp] theorem State.setEntry_rTag : (s.setEntry i e).rTag = s.rTag := rfl
@[simp] theorem State.setEntry_rSlot : (s.setEntry i e).rSlot = s.rSlot := rfl
@[simp] theorem State.setEntry_cam : (s.setEntry i e).cam = s.cam.set i e := rfl
@[simp] theorem State.setEntry_freeCount : (s.setEntry i e).freeCount = s.freeCount := rfl
@[simp] theorem State.setEntry_pending : (s.setEntry i e).pending = s.pending := rfl
@[simp] theorem State.setEntry_reply : (s.setEntry i e).reply = s.reply := rfl

end

section
variable (s : State) (i : Nat)

@[simp] theorem State.clearSlot_cfg : (s.clearSlot i).cfg = s.cfg := rfl
@[simp] theorem State.clearSlot_status : (s.clearSlot i).status = s.status := rfl
@[simp] theorem State.clearSlot_flags : (s.clearSlot i).flags = s.flags := rfl
@[simp] theorem State.clearSlot_fCode : (s.clearSlot i).fCode = s.fCode := rfl
@[simp] theorem State.clearSlot_fBf : (s.clearSlot i).fBf = s.fBf := rfl
@[simp] theorem State.clearSlot_fRid : (s.clearSlot i).fRid = s.fRid := rfl
@[simp] theorem State.clearSlot_fToken : (s.clearSlot i).fToken = s.fToken := rfl
@[simp] theorem State.clearSlot_fPlen : (s.clearSlot i).fPlen = s.fPlen := rfl
@[simp] theorem State.clearSlot_fCrc : (s.clearSlot i).fCrc = s.fCrc := rfl
@[simp] theorem State.clearSlot_fTotal : (s.clearSlot i).fTotal = s.fTotal := rfl
@[simp] theorem State.clearSlot_fOffset : (s.clearSlot i).fOffset = s.fOffset := rfl
@[simp] theorem State.clearSlot_mem : (s.clearSlot i).mem = s.mem := rfl
@[simp] theorem State.clearSlot_crcAcc : (s.clearSlot i).crcAcc = s.crcAcc := rfl
@[simp] theorem State.clearSlot_rErr : (s.clearSlot i).rErr = s.rErr := rfl
@[simp] theorem State.clearSlot_rRoute : (s.clearSlot i).rRoute = s.rRoute := rfl
@[simp] theorem State.clearSlot_tokCnt : (s.clearSlot i).tokCnt = s.tokCnt := rfl
@[simp] theorem State.clearSlot_kProto : (s.clearSlot i).kProto = s.kProto := rfl
@[simp] theorem State.clearSlot_kPipe : (s.clearSlot i).kPipe = s.kPipe := rfl
@[simp] theorem State.clearSlot_kAddr : (s.clearSlot i).kAddr = s.kAddr := rfl
@[simp] theorem State.clearSlot_kUseCode : (s.clearSlot i).kUseCode = s.kUseCode := rfl
@[simp] theorem State.clearSlot_kTag : (s.clearSlot i).kTag = s.kTag := rfl
@[simp] theorem State.clearSlot_rTag : (s.clearSlot i).rTag = s.rTag := rfl
@[simp] theorem State.clearSlot_rSlot : (s.clearSlot i).rSlot = s.rSlot := rfl
@[simp] theorem State.clearSlot_cam : (s.clearSlot i).cam = s.cam.set i { s.entry i with valid := false } := rfl
@[simp] theorem State.clearSlot_freeCount : (s.clearSlot i).freeCount = s.freeCount := rfl
@[simp] theorem State.clearSlot_pending : (s.clearSlot i).pending = s.pending := rfl
@[simp] theorem State.clearSlot_reply : (s.clearSlot i).reply = s.reply := rfl

end

section
variable (s : State)

@[simp] theorem State.resetState_cfg : s.resetState.cfg = s.cfg := rfl
@[simp] theorem State.resetState_status : s.resetState.status = (State.resetWith s.cfg).status := rfl
@[simp] theorem State.resetState_flags : s.resetState.flags = (State.resetWith s.cfg).flags := rfl
@[simp] theorem State.resetState_fCode : s.resetState.fCode = (State.resetWith s.cfg).fCode := rfl
@[simp] theorem State.resetState_fBf : s.resetState.fBf = (State.resetWith s.cfg).fBf := rfl
@[simp] theorem State.resetState_fRid : s.resetState.fRid = (State.resetWith s.cfg).fRid := rfl
@[simp] theorem State.resetState_fToken : s.resetState.fToken = (State.resetWith s.cfg).fToken := rfl
@[simp] theorem State.resetState_fPlen : s.resetState.fPlen = (State.resetWith s.cfg).fPlen := rfl
@[simp] theorem State.resetState_fCrc : s.resetState.fCrc = (State.resetWith s.cfg).fCrc := rfl
@[simp] theorem State.resetState_fTotal : s.resetState.fTotal = (State.resetWith s.cfg).fTotal := rfl
@[simp] theorem State.resetState_fOffset : s.resetState.fOffset = (State.resetWith s.cfg).fOffset := rfl
@[simp] theorem State.resetState_mem : s.resetState.mem = (State.resetWith s.cfg).mem := rfl
@[simp] theorem State.resetState_crcAcc : s.resetState.crcAcc = (State.resetWith s.cfg).crcAcc := rfl
@[simp] theorem State.resetState_rErr : s.resetState.rErr = (State.resetWith s.cfg).rErr := rfl
@[simp] theorem State.resetState_rRoute : s.resetState.rRoute = (State.resetWith s.cfg).rRoute := rfl
@[simp] theorem State.resetState_tokCnt : s.resetState.tokCnt = (State.resetWith s.cfg).tokCnt := rfl
@[simp] theorem State.resetState_kProto : s.resetState.kProto = (State.resetWith s.cfg).kProto := rfl
@[simp] theorem State.resetState_kPipe : s.resetState.kPipe = (State.resetWith s.cfg).kPipe := rfl
@[simp] theorem State.resetState_kAddr : s.resetState.kAddr = (State.resetWith s.cfg).kAddr := rfl
@[simp] theorem State.resetState_kUseCode : s.resetState.kUseCode = (State.resetWith s.cfg).kUseCode := rfl
@[simp] theorem State.resetState_kTag : s.resetState.kTag = (State.resetWith s.cfg).kTag := rfl
@[simp] theorem State.resetState_rTag : s.resetState.rTag = (State.resetWith s.cfg).rTag := rfl
@[simp] theorem State.resetState_rSlot : s.resetState.rSlot = (State.resetWith s.cfg).rSlot := rfl
@[simp] theorem State.resetState_cam : s.resetState.cam = (State.resetWith s.cfg).cam := rfl
@[simp] theorem State.resetState_freeCount : s.resetState.freeCount = s.freeCount := rfl
@[simp] theorem State.resetState_pending : s.resetState.pending = s.pending := rfl
@[simp] theorem State.resetState_reply : s.resetState.reply = s.reply := rfl

@[simp] theorem State.drawChoice_cfg : s.drawChoice.cfg = s.cfg := by unfold State.drawChoice; split <;> rfl
@[simp] theorem State.drawChoice_status : s.drawChoice.status = s.status := by unfold State.drawChoice; split <;> rfl
@[simp] theorem State.drawChoice_flags : s.drawChoice.flags = s.flags := by unfold State.drawChoice; split <;> rfl
@[simp] theorem State.drawChoice_fCode : s.drawChoice.fCode = s.fCode := by unfold State.drawChoice; split <;> rfl
@[simp] theorem State.drawChoice_fBf : s.drawChoice.fBf = s.fBf := by unfold State.drawChoice; split <;> rfl
@[simp] theorem State.drawChoice_fRid : s.drawChoice.fRid = s.fRid := by unfold State.drawChoice; split <;> rfl
@[simp] theorem State.drawChoice_fToken : s.drawChoice.fToken = s.fToken := by unfold State.drawChoice; split <;> rfl
@[simp] theorem State.drawChoice_fPlen : s.drawChoice.fPlen = s.fPlen := by unfold State.drawChoice; split <;> rfl
@[simp] theorem State.drawChoice_fCrc : s.drawChoice.fCrc = s.fCrc := by unfold State.drawChoice; split <;> rfl
@[simp] theorem State.drawChoice_fTotal : s.drawChoice.fTotal = s.fTotal := by unfold State.drawChoice; split <;> rfl
@[simp] theorem State.drawChoice_fOffset : s.drawChoice.fOffset = s.fOffset := by unfold State.drawChoice; split <;> rfl
@[simp] theorem State.drawChoice_mem : s.drawChoice.mem = s.mem := by unfold State.drawChoice; split <;> rfl
@[simp] theorem State.drawChoice_crcAcc : s.drawChoice.crcAcc = s.crcAcc := by unfold State.drawChoice; split <;> rfl
@[simp] theorem State.drawChoice_rErr : s.drawChoice.rErr = s.rErr := by unfold State.drawChoice; split <;> rfl
@[simp] theorem State.drawChoice_rRoute : s.drawChoice.rRoute = s.rRoute := by unfold State.drawChoice; split <;> rfl
@[simp] theorem State.drawChoice_tokCnt : s.drawChoice.tokCnt = s.tokCnt := by unfold State.drawChoice; split <;> rfl
@[simp] theorem State.drawChoice_kProto : s.drawChoice.kProto = s.kProto := by unfold State.drawChoice; split <;> rfl
@[simp] theorem State.drawChoice_kPipe : s.drawChoice.kPipe = s.kPipe := by unfold State.drawChoice; split <;> rfl
@[simp] theorem State.drawChoice_kAddr : s.drawChoice.kAddr = s.kAddr := by unfold State.drawChoice; split <;> rfl
@[simp] theorem State.drawChoice_kUseCode : s.drawChoice.kUseCode = s.kUseCode := by unfold State.drawChoice; split <;> rfl
@[simp] theorem State.drawChoice_kTag : s.drawChoice.kTag = s.kTag := by unfold State.drawChoice; split <;> rfl
@[simp] theorem State.drawChoice_rTag : s.drawChoice.rTag = s.rTag := by unfold State.drawChoice; split <;> rfl
@[simp] theorem State.drawChoice_rSlot : s.drawChoice.rSlot = s.rSlot := by unfold State.drawChoice; split <;> rfl
@[simp] theorem State.drawChoice_cam : s.drawChoice.cam = s.cam := by unfold State.drawChoice; split <;> rfl
@[simp] theorem State.drawChoice_pending : s.drawChoice.pending = s.pending := by unfold State.drawChoice; split <;> rfl
@[simp] theorem State.drawChoice_reply : s.drawChoice.reply = s.reply := by unfold State.drawChoice; split <;> rfl

end

end Sys2Proof.Machine
end

