-- ==== Sys2Proof/Laws/Ops.lean ====
section
/-! SUPPORT. What each shared operation can do, said once: the outcomes, the front end, the port and the step. -/

namespace Sys2Proof.Machine

theorem done_eq_next {s t : State} : done s = .next t ↔ t = s.setStatus .ok .none := by
  simp [done, eq_comm]

theorem fail_eq_next {s t : State} {st : St} {cause : Cause} :
    fail s st cause = .next t ↔ t = s.setStatus st cause := by
  simp [fail, eq_comm]

theorem reservedEncoding_eq_next {s t : State} : reservedEncoding s = .next t ↔ t = s.setStatus .invalidOp .none :=
  fail_eq_next

@[simp] theorem withCorrelator_present {s : State} (body : StepOutcome) (h : s.cfg.hasCorr = true) :
    withCorrelator s body = body := if_pos h

@[simp] theorem withCorrelator_absent {s : State} (body : StepOutcome) (h : s.cfg.hasCorr = false) :
    withCorrelator s body = reservedEncoding s := by simp [withCorrelator, h]

/-- A correlator command either runs its body, with the correlator there, or is a reserved encoding. -/
theorem withCorrelator_eq_next {s t : State} {body : StepOutcome} :
    withCorrelator s body = .next t ↔
      (s.cfg.hasCorr = true ∧ body = .next t) ∨ (s.cfg.hasCorr = false ∧ t = s.setStatus .invalidOp .none) := by
  cases h : s.cfg.hasCorr <;> simp [h, reservedEncoding_eq_next]

/-- Everything the front end can do with a datagram whose control word is `cw` of class `cls`. -/
theorem receiveFrame_cases {cls : CodeClass} {cw : ControlWord} {s t : State} (h : receiveFrame cls cw s = .next t) :
    (cls = .rst ∧ cw.plen ≠ 1 ∧ t = s.setStatus .malformed .rstLen) ∨
    (¬(cls = .rst ∧ cw.plen ≠ 1) ∧ cw.bf = 1 ∧ cw.plen.toNat < 6 ∧ t = s.setStatus .malformed .bhNofit) ∨
    (¬(cls = .rst ∧ cw.plen ≠ 1) ∧ ¬(cw.bf = 1 ∧ cw.plen.toNat < 6) ∧ s.mem.wire.length < 4 + cw.plen.toNat ∧
      t = s.setStatus .malformed .shortFrame) ∨
    (¬(cls = .rst ∧ cw.plen ≠ 1) ∧ cw.bf = 1 ∧ 6 ≤ cw.plen.toNat ∧ 4 + cw.plen.toNat ≤ s.mem.wire.length ∧
      t = ((s.deliver cw (slice s.mem.wire 10 (cw.plen.toNat - 6)) .blockRx).setBlockHeader
        (bhUnpack (slice s.mem.wire 4 6))).setStatus .ok .none) ∨
    (cls = .rst ∧ cw.plen = 1 ∧ cw.bf ≠ 1 ∧ 4 + cw.plen.toNat ≤ s.mem.wire.length ∧
      t = ((s.deliver cw (slice s.mem.wire 4 cw.plen.toNat) .rstFanout).setResetByte
        (byteAt s.mem.wire 4)).setStatus .ok .none) ∨
    (cls ≠ .rst ∧ cw.bf ≠ 1 ∧ 4 + cw.plen.toNat ≤ s.mem.wire.length ∧
      t = (s.deliver cw (slice s.mem.wire 4 cw.plen.toNat) (routeOf cls)).setStatus .ok .none) := by
  unfold receiveFrame at h
  split at h
  · next h1 => exact .inl ⟨h1.1, h1.2, fail_eq_next.1 h⟩
  next h1 =>
  split at h
  · next h2 => exact .inr (.inl ⟨h1, h2.1, h2.2, fail_eq_next.1 h⟩)
  next h2 =>
  split at h
  · next h3 => exact .inr (.inr (.inl ⟨h1, h2, h3, fail_eq_next.1 h⟩))
  next h3 =>
  split at h
  · next h4 =>
    have h6 : 6 ≤ cw.plen.toNat := Nat.le_of_not_lt fun hlt => h2 ⟨h4, hlt⟩
    exact .inr (.inr (.inr (.inl ⟨h1, h4, h6, by omega, done_eq_next.1 h⟩)))
  next h4 =>
  split at h
  · next h5 =>
    subst h5
    exact .inr (.inr (.inr (.inr (.inl ⟨rfl, by simpa using h1, h4, by omega, done_eq_next.1 h⟩))))
  · next h5 => exact .inr (.inr (.inr (.inr (.inr ⟨h5, h4, by omega, done_eq_next.1 h⟩))))

@[simp] theorem nextTransaction_nil {s : State} (h : s.pending = []) : s.nextTransaction = none := by
  simp [State.nextTransaction, h]

@[simp] theorem nextTransaction_cons {s : State} {tr : Transaction} {rest : List Transaction}
    (h : s.pending = tr :: rest) : s.nextTransaction = some (tr, { s with pending := rest, reply := .none }) := by
  simp [State.nextTransaction, h]

/-- What carrying out one transaction is. -/
def carryOut (tr : Transaction) (s : State) : StepOutcome :=
  match tr with
  | .regRead number => portRegRead number s
  | .regWrite number value => portRegWrite number value s
  | .load b bytes => portLoad b bytes s
  | .read b => portRead b s
  | .reset => portReset s
  | .cmd w =>
    match decodeCommand s.cfg.hasCorr w with
    | .ok i => exec i s
    | .error _ => reservedEncoding s

/-- With a transaction waiting, a step carries it out. -/
theorem step_cons {s : State} {tr : Transaction} {rest : List Transaction} (h : s.pending = tr :: rest) :
    step s = carryOut tr { s with pending := rest, reply := .none } := by
  rw [step, nextTransaction_cons h]
  cases tr <;> rfl

/-- With none waiting, DFC holds its state. -/
theorem step_nil {s : State} (h : s.pending = []) : step s = .next s := by
  rw [step, nextTransaction_nil h]

/-- A step either holds the state or carries out the first transaction. -/
theorem step_cases {s : State} {o : StepOutcome} (h : step s = o) :
    (s.pending = [] ∧ o = .next s) ∨
    ∃ tr rest, s.pending = tr :: rest ∧ carryOut tr { s with pending := rest, reply := .none } = o := by
  cases hp : s.pending with
  | nil => exact .inl ⟨rfl, h ▸ step_nil hp⟩
  | cons tr rest => exact .inr ⟨tr, rest, rfl, (step_cons hp) ▸ h⟩

/-- A register access reaches its body only with a register of R26 that this configuration has. -/
theorem withRegister_eq_next {s t : State} {number : Nat} {body : Reg → StepOutcome} :
    withRegister s number body = .next t ↔
      ∃ r, regOfNumber number = some r ∧ (regIsCorrelator r = true → s.cfg.hasCorr = true) ∧ body r = .next t := by
  unfold withRegister
  cases regOfNumber number with
  | none => simp
  | some r =>
    simp only [Option.some.injEq, exists_eq_left']
    split
    · next h => simp [h.1, h.2]
    · next h =>
      have : regIsCorrelator r = true → s.cfg.hasCorr = true := fun hr => by
        cases hc : s.cfg.hasCorr with
        | false => exact absurd ⟨hr, hc⟩ h
        | true => rfl
      exact ⟨fun hb => ⟨this, hb⟩, fun hb => hb.2⟩

theorem portRegRead_eq_next {s t : State} {number : Nat} : portRegRead number s = .next t ↔
    ∃ r, regOfNumber number = some r ∧ (regIsCorrelator r = true → s.cfg.hasCorr = true) ∧
      t = { s with reply := .value (s.readReg r) } := by
  simp only [portRegRead, withRegister_eq_next, Host.Outcome.next.injEq, eq_comm (b := t)]

theorem portRegWrite_eq_next {s t : State} {number value : Nat} : portRegWrite number value s = .next t ↔
    ∃ r, regOfNumber number = some r ∧ (regIsCorrelator r = true → s.cfg.hasCorr = true) ∧ regWritable r = true ∧
      value < 2 ^ regWidth s.cfg r ∧ t = s.writeReg r value := by
  simp only [portRegWrite, withRegister_eq_next]
  refine exists_congr fun r => and_congr_right fun _ => and_congr_right fun _ => ?_
  split
  · next h => simp [h]
  · next h =>
    rw [Bool.not_eq_false] at h
    split
    · next h2 => simp [h]; omega
    · next h2 => simp [h, eq_comm]; omega

theorem portLoad_eq_next {s t : State} {b : Buf} {bytes : List Byte} : portLoad b bytes s = .next t ↔
    bytes.length ≤ bufCap s.cfg b ∧ t = s.setBuf b bytes := by
  unfold portLoad
  split
  · next h => simp; omega
  · next h => simp [eq_comm]; omega

theorem portRead_eq_next {s t : State} {b : Buf} :
    portRead b s = .next t ↔ t = { s with reply := .bytes (s.mem.content b) } := by
  simp [portRead, eq_comm]

theorem portReset_eq_next {s t : State} : portReset s = .next t ↔ t = s.resetState := by
  simp [portReset, eq_comm]

@[simp] theorem crcFeed_nil (c : Config) (acc : Word16) : crcFeed c acc [] = acc := rfl

@[simp] theorem crcFeed_cons (c : Config) (acc : Word16) (b : Byte) (s : List Byte) :
    crcFeed c acc (b :: s) = crcFeed c (crcStep c acc b) s := rfl

/-- Feeding two sequences one after the other is feeding them joined. -/
theorem crcFeed_append (c : Config) (acc : Word16) (s u : List Byte) :
    crcFeed c acc (s ++ u) = crcFeed c (crcFeed c acc s) u := List.foldl_append

@[simp] theorem repeatTimes_zero {α : Type} (f : α → α) (a : α) : repeatTimes f 0 a = a := rfl

@[simp] theorem repeatTimes_succ {α : Type} (f : α → α) (n : Nat) (a : α) :
    repeatTimes f (n + 1) a = repeatTimes f n (f a) := rfl

end Sys2Proof.Machine
end

