-- ==== Sys2Proof/Laws/PerInstr.lean ====
section
/-! SUPPORT. One lemma per instruction: its encoding lies in its row of spec/opcode_table.json, at the default code map. -/

namespace Sys2Proof.Laws

open Machine

/-- An encoded word lies in the row of the given match and mask (30_encoding R97, R98, R108). -/
def inRow (w : EncodedWord) (bits : Nat) (value mask : BitVec bits) : Prop :=
  match w with
  | .command v => bits = 16 ∧ v.setWidth bits &&& mask = value
  | .controlWord v => bits = 32 ∧ v.setWidth bits &&& mask = value

/-- The top three bits of a packed control word are its code. -/
theorem cwPack_and_codeMask (code : BitVec 3) (bf : BitVec 1) (rid token : BitVec 10) (plen : BitVec 8) :
    cwPack ⟨code, bf, rid, token, plen⟩ &&& 0xE0000000#32 = code.setWidth 32 <<< 29 := by
  apply BitVec.eq_of_getLsbD_eq
  intro i hi
  simp only [cwPack, BitVec.getLsbD_and, BitVec.getLsbD_append]
  interval_cases i <;> simp

/-- The high byte of a command word is its opcode. -/
theorem append_and_opcMask (opc imm : Byte) : (opc ++ imm : Word16) &&& 0xFF00#16 = opc.setWidth 16 <<< 8 := by
  apply BitVec.eq_of_getLsbD_eq
  intro i hi
  simp only [BitVec.getLsbD_and, BitVec.getLsbD_append]
  interval_cases i <;> simp

namespace EncodingInRow

/-- The row of spec/opcode_table.json of each instruction holds its encoding. -/
def Statement : Instr → Prop
  | .nop => inRow (encode Config.default .nop) 16 0x0000 0xFFFF
  | .srst => inRow (encode Config.default .srst) 16 0x0100 0xFFFF
  | .encCw => inRow (encode Config.default .encCw) 16 0x1000 0xFFFF
  | .decCw => inRow (encode Config.default .decCw) 16 0x1100 0xFFFF
  | .encFrame => inRow (encode Config.default .encFrame) 16 0x2000 0xFFFF
  | .decFrame => inRow (encode Config.default .decFrame) 16 0x2100 0xFFFF
  | .decAuto => inRow (encode Config.default .decAuto) 16 0x2200 0xFFFF
  | .encBh => inRow (encode Config.default .encBh) 16 0x3000 0xFFFF
  | .decBh => inRow (encode Config.default .decBh) 16 0x3100 0xFFFF
  | .encBframe => inRow (encode Config.default .encBframe) 16 0x3200 0xFFFF
  | .decBframe => inRow (encode Config.default .decBframe) 16 0x3300 0xFFFF
  | .crcClr => inRow (encode Config.default .crcClr) 16 0x4000 0xFFFF
  | .crcUpdb imm8 => inRow (encode Config.default (.crcUpdb imm8)) 16 0x4100 0xFF00
  | .crcUpdp => inRow (encode Config.default .crcUpdp) 16 0x4200 0xFFFF
  | .crcGet => inRow (encode Config.default .crcGet) 16 0x4300 0xFFFF
  | .crcChk => inRow (encode Config.default .crcChk) 16 0x4400 0xFFFF
  | .encRstp imm8 => inRow (encode Config.default (.encRstp imm8)) 16 0x5000 0xFF00
  | .decRstp => inRow (encode Config.default .decRstp) 16 0x5100 0xFFFF
  | .encBackp => inRow (encode Config.default .encBackp) 16 0x5200 0xFFFF
  | .decBackp => inRow (encode Config.default .decBackp) 16 0x5300 0xFFFF
  | .tokAlloc => inRow (encode Config.default .tokAlloc) 16 0x6000 0xFFFF
  | .camIns => inRow (encode Config.default .camIns) 16 0x6100 0xFFFF
  | .camLook => inRow (encode Config.default .camLook) 16 0x6200 0xFFFF
  | .camTake => inRow (encode Config.default .camTake) 16 0x6300 0xFFFF
  | .camDel imm8 => inRow (encode Config.default (.camDel imm8)) 16 0x6400 0xFF00
  | .codeCon bf rid token plen => inRow (encode Config.default (.codeCon bf rid token plen)) 32 0x00000000 0xE0000000
  | .codeNon bf rid token plen => inRow (encode Config.default (.codeNon bf rid token plen)) 32 0x20000000 0xE0000000
  | .codeAck bf rid token plen => inRow (encode Config.default (.codeAck bf rid token plen)) 32 0x40000000 0xE0000000
  | .codeRst bf rid token plen => inRow (encode Config.default (.codeRst bf rid token plen)) 32 0x60000000 0xE0000000
  | .codeBack bf rid token plen => inRow (encode Config.default (.codeBack bf rid token plen)) 32 0x80000000 0xE0000000

theorem nop : Statement .nop := ⟨rfl, by decide⟩
theorem srst : Statement .srst := ⟨rfl, by decide⟩
theorem encCw : Statement .encCw := ⟨rfl, by decide⟩
theorem decCw : Statement .decCw := ⟨rfl, by decide⟩
theorem encFrame : Statement .encFrame := ⟨rfl, by decide⟩
theorem decFrame : Statement .decFrame := ⟨rfl, by decide⟩
theorem decAuto : Statement .decAuto := ⟨rfl, by decide⟩
theorem encBh : Statement .encBh := ⟨rfl, by decide⟩
theorem decBh : Statement .decBh := ⟨rfl, by decide⟩
theorem encBframe : Statement .encBframe := ⟨rfl, by decide⟩
theorem decBframe : Statement .decBframe := ⟨rfl, by decide⟩
theorem crcClr : Statement .crcClr := ⟨rfl, by decide⟩
theorem crcUpdb (imm8 : Byte) : Statement (.crcUpdb imm8) := ⟨rfl, append_and_opcMask 0x41 imm8⟩
theorem crcUpdp : Statement .crcUpdp := ⟨rfl, by decide⟩
theorem crcGet : Statement .crcGet := ⟨rfl, by decide⟩
theorem crcChk : Statement .crcChk := ⟨rfl, by decide⟩
theorem encRstp (imm8 : Byte) : Statement (.encRstp imm8) := ⟨rfl, append_and_opcMask 0x50 imm8⟩
theorem decRstp : Statement .decRstp := ⟨rfl, by decide⟩
theorem encBackp : Statement .encBackp := ⟨rfl, by decide⟩
theorem decBackp : Statement .decBackp := ⟨rfl, by decide⟩
theorem tokAlloc : Statement .tokAlloc := ⟨rfl, by decide⟩
theorem camIns : Statement .camIns := ⟨rfl, by decide⟩
theorem camLook : Statement .camLook := ⟨rfl, by decide⟩
theorem camTake : Statement .camTake := ⟨rfl, by decide⟩
theorem camDel (imm8 : Byte) : Statement (.camDel imm8) := ⟨rfl, append_and_opcMask 0x64 imm8⟩

section

variable (bf : BitVec 1) (rid token : BitVec 10) (plen : BitVec 8)

theorem codeCon : Statement (.codeCon bf rid token plen) := ⟨rfl, cwPack_and_codeMask 0 bf rid token plen⟩
theorem codeNon : Statement (.codeNon bf rid token plen) := ⟨rfl, cwPack_and_codeMask 1 bf rid token plen⟩
theorem codeAck : Statement (.codeAck bf rid token plen) := ⟨rfl, cwPack_and_codeMask 2 bf rid token plen⟩
theorem codeRst : Statement (.codeRst bf rid token plen) := ⟨rfl, cwPack_and_codeMask 3 bf rid token plen⟩
theorem codeBack : Statement (.codeBack bf rid token plen) := ⟨rfl, cwPack_and_codeMask 4 bf rid token plen⟩

end

end EncodingInRow

end Sys2Proof.Laws
end

