-- ==== Sys2Proof/Laws/Table.lean ====
section
/-! SUPPORT. The laws of the correlator table: an entry after a write, and what each slot search can answer
(45_correlator R182, R183). -/

namespace Sys2Proof.Machine

@[simp] theorem State.entry_setEntry_same (s : State) {i : Nat} (e : CamEntry) (h : i < s.cam.length) :
    (s.setEntry i e).entry i = e := by
  simp [State.entry, State.setEntry, h]

@[simp] theorem State.entry_setEntry_other (s : State) {i j : Nat} (e : CamEntry) (h : j ≠ i) :
    (s.setEntry i e).entry j = s.entry j := by
  simp [State.entry, State.setEntry, List.getD_eq_getElem?_getD, Ne.symm h]

/-- Writing a slot that does not exist writes nothing. -/
theorem State.setEntry_outside (s : State) {i : Nat} (e : CamEntry) (h : s.cam.length ≤ i) : s.setEntry i e = s := by
  simp [State.setEntry, List.set_eq_of_length_le h]

/-- A cleared slot is invalid, whether or not it exists. -/
@[simp] theorem State.clearSlot_invalid (s : State) (i : Nat) : ((s.clearSlot i).entry i).valid = false := by
  by_cases h : i < s.cam.length
  · rw [State.clearSlot, State.entry_setEntry_same s _ h]
  · have h' : s.cam.length ≤ i := Nat.le_of_not_lt h
    rw [State.clearSlot, State.setEntry_outside s _ h']
    simp [State.entry, List.getD_eq_getElem?_getD, List.getElem?_eq_none h', CamEntry.empty]

/-- An entry is in the table, or it is the empty entry that stands past its end. -/
theorem State.entry_mem_or_empty (s : State) (i : Nat) : s.entry i ∈ s.cam ∨ s.entry i = CamEntry.empty := by
  by_cases h : i < s.cam.length
  · left
    rw [State.entry, List.getD_eq_getElem _ _ h]
    exact List.getElem_mem h
  · right
    rw [State.entry, List.getD_eq_getElem?_getD, List.getElem?_eq_none (Nat.le_of_not_lt h)]
    rfl

/-- `find?` over the slot numbers answers the least that passes. -/
theorem find_range_eq_some {n k : Nat} {p : Nat → Bool} :
    (List.range n).find? p = some k ↔ k < n ∧ p k = true ∧ ∀ j < k, p j = false := by
  rw [List.find?_range_eq_some]
  simp only [List.mem_range, Bool.not_eq_true']
  tauto

theorem find_range_eq_none {n : Nat} {p : Nat → Bool} :
    (List.range n).find? p = none ↔ ∀ k < n, p k = false := by
  simp [List.find?_eq_none]

theorem firstFree_eq_some {s : State} {k : Nat} :
    s.firstFree = some k ↔ k < s.cfg.camDepth ∧ (s.entry k).valid = false ∧ ∀ j < k, (s.entry j).valid = true := by
  simp only [State.firstFree, find_range_eq_some, Bool.not_eq_true', Bool.not_eq_false']

theorem firstFree_eq_none {s : State} : s.firstFree = none ↔ ∀ k < s.cfg.camDepth, (s.entry k).valid = true := by
  simp only [State.firstFree, find_range_eq_none, Bool.not_eq_false']

theorem firstMatch_eq_some {s : State} {k : Nat} :
    s.firstMatch = some k ↔ k < s.cfg.camDepth ∧ s.slotMatches k = true ∧ ∀ j < k, s.slotMatches j = false :=
  find_range_eq_some

theorem firstMatch_eq_none {s : State} : s.firstMatch = none ↔ ∀ k < s.cfg.camDepth, s.slotMatches k = false :=
  find_range_eq_none

theorem mem_matchingSlots {s : State} {k : Nat} :
    k ∈ s.matchingSlots ↔ k < s.cfg.camDepth ∧ s.slotMatches k = true := by
  simp [State.matchingSlots]

/-- A slot that matches is valid and holds the current key. -/
theorem slotMatches_iff {s : State} {k : Nat} :
    s.slotMatches k = true ↔ (s.entry k).valid = true ∧ entryKey (s.entry k) = s.key := by
  simp [State.slotMatches]

/-- Whatever the policy, a slot that answers is below the depth and matches. -/
theorem answeringSlot_eq_some {s : State} {k : Nat} (h : s.answeringSlot = some k) :
    k < s.cfg.camDepth ∧ s.slotMatches k = true := by
  unfold State.answeringSlot at h
  split at h
  · exact ⟨(firstMatch_eq_some.1 h).1, (firstMatch_eq_some.1 h).2.1⟩
  · exact mem_matchingSlots.1 (List.mem_of_getElem? h)

/-- Whatever the policy, no slot answers exactly when none matches. -/
theorem answeringSlot_eq_none {s : State} :
    s.answeringSlot = none ↔ ∀ k < s.cfg.camDepth, s.slotMatches k = false := by
  unfold State.answeringSlot
  split
  · exact firstMatch_eq_none
  · rw [List.getElem?_eq_none_iff]
    constructor
    · intro h k hk
      by_contra hm
      rw [Bool.not_eq_false] at hm
      have : s.matchingSlots.length ≠ 0 := by
        intro h0
        have hmem := mem_matchingSlots.2 ⟨hk, hm⟩
        rw [List.length_eq_zero_iff.1 h0] at hmem
        exact List.not_mem_nil hmem
      exact absurd (Nat.mod_lt (Config.freeSlot s.freeCount) (Nat.pos_of_ne_zero this)) (by omega)
    · intro h
      have : s.matchingSlots = [] := by
        rw [List.eq_nil_iff_forall_not_mem]
        intro k hk
        have := mem_matchingSlots.1 hk
        rw [h k this.1] at this
        exact absurd this.2 (by decide)
      simp [this]

/-- Under `LOWEST_SLOT` the slot that answers is the least that matches. -/
theorem answeringSlot_lowest {s : State} (h : s.cfg.camMatchPolicy = .lowestSlot) : s.answeringSlot = s.firstMatch := by
  simp [State.answeringSlot, h]

@[simp] theorem drawChoice_lowest {s : State} (h : s.cfg.camMatchPolicy = .lowestSlot) : s.drawChoice = s := by
  simp [State.drawChoice, h]

@[simp] theorem drawChoice_any {s : State} (h : s.cfg.camMatchPolicy = .any) :
    s.drawChoice = { s with freeCount := s.freeCount + 1 } := by
  simp [State.drawChoice, h]

end Sys2Proof.Machine
end

