-- ==== Sys2Proof/Tests/Slice0.lean ====
section
/-! SUPPORT. The model's own tests: the checks refuse ill-formed terms, every row decodes, single commands give the values
of 95_test_vectors, and the hypotheses of each statement can be met. -/

namespace Sys2Proof.Tests

open Machine

/-- Whether an outcome is a next state of which `p` holds. -/
def nextHas (o : StepOutcome) (p : State → Bool) : Bool :=
  match o with
  | .next t => p t
  | .fault _ => false
  | .refused _ => false

/-- Whether an outcome is the given refusal. -/
def refuses (o : StepOutcome) (r : Refusal) : Bool :=
  match o with
  | .next _ => false
  | .fault _ => false
  | .refused q => q == r

theorem exists_of_nextHas {o : StepOutcome} {p : State → Bool} (h : nextHas o p = true) : ∃ t, o = .next t ∧ p t = true := by
  cases o with
  | next t => exact ⟨t, rfl, h⟩
  | fault r => cases r
  | refused r => exact absurd h (by simp [nextHas])

/-- The reset state of a DFC at the default parameters with a table of four slots. -/
def small : State := State.resetWith { Config.default with camDepth := 4 }

/-- The same without a correlator. -/
def bare : State := State.resetWith { Config.default with hasCorr := false }

/-- `small` with the five field registers set. -/
def withFields (code : BitVec 3) (bf : BitVec 1) (rid token : BitVec 10) (plen : BitVec 8) : State :=
  small.setControlWord ⟨code, bf, rid, token, plen⟩

/-- `small` with a datagram in `WIRE`. -/
def withWire (bytes : List Byte) : State := small.setBuf .wire bytes

/-- `s` with bytes in `PAY`. -/
def withPay (bytes : List Byte) (s : State) : State := s.setBuf .pay bytes

/-- `small` with block header registers as in 95_test_vectors 2.3. -/
def withHeader (offset : Word16) (s : State) : State := s.setBlockHeader ⟨0xC6BA, 501, offset⟩

/-- A key and tag of 95_test_vectors 2.7. -/
def keyed : State := { small with kProto := 1, kPipe := 2, kAddr := 0x2141000000000401, fRid := 1, kTag := 0x00A1 }

/-- `keyed` with that key stored in slot 0. -/
def stored : State := { keyed with cam := keyed.newEntry :: List.replicate 3 CamEntry.empty }

/-- `stored` under `CAM_MATCH_POLICY = ANY`. -/
def storedAny : State := { stored with cfg := { stored.cfg with camMatchPolicy := .any } }

/-- A table with no free slot. -/
def full : State := { keyed with cam := List.replicate 4 keyed.newEntry }

/-- One step that runs a command word. -/
def runs (w : Nat) (s : State) : StepOutcome := step (s.withFetchWord 16 w)

/-! ## The checks refuse ill-formed terms -/

theorem test_config_capacities : ¬({ Config.default with wireCap := 258 } : Config).Wf ∧
    ¬({ Config.default with payCap := 254 } : Config).Wf ∧ Config.default.Wf := by decide

theorem test_config_codes_distinct : ¬({ Config.default with codeBack := 0 } : Config).Wf := by decide

theorem test_config_depth : ¬({ Config.default with camDepth := 0 } : Config).Wf ∧
    ¬({ Config.default with camDepth := 257 } : Config).Wf ∧ ({ Config.default with camDepth := 256 } : Config).Wf := by
  decide

theorem test_config_widths : ¬({ Config.default with protoW := 0 } : Config).Wf ∧
    ¬({ Config.default with pipeW := 0 } : Config).Wf ∧ ¬({ Config.default with addrW := 0 } : Config).Wf ∧
    ¬({ Config.default with tagW := 0 } : Config).Wf := by decide

theorem test_instr_wf : ¬Instr.Wf bare.cfg .tokAlloc ∧ ¬Instr.Wf bare.cfg (.camDel 0) ∧ Instr.Wf bare.cfg .nop ∧
    Instr.Wf small.cfg (.camDel 255) := by decide

theorem test_transaction_wf_numbers : Transaction.wf small.cfg (.regRead 0x0F) = false ∧
    Transaction.wf small.cfg (.regRead 0x18) = false ∧ Transaction.wf bare.cfg (.regRead 0x10) = false ∧
    Transaction.wf bare.cfg (.regWrite 0x15 0) = false ∧ Transaction.wf small.cfg (.regWrite 0xFF 0) = false ∧
    Transaction.wf small.cfg (.regRead 0x17) = true := by decide

theorem test_transaction_wf_writes : Transaction.wf small.cfg (.regWrite 0x00 0) = false ∧
    Transaction.wf small.cfg (.regWrite 0x10 5) = false ∧ Transaction.wf small.cfg (.regWrite 0x04 0x400) = false ∧
    Transaction.wf small.cfg (.regWrite 0x04 0x3FF) = true := by decide

theorem test_transaction_wf_loads : Transaction.wf { Config.default with payCap := 1 } (.load .pay [1, 2]) = false ∧
    Transaction.wf { Config.default with wireCap := 2 } (.load .wire [1, 2]) = true := by decide

/-! ## Decoding: words written out from 30_encoding R86, R104, R106, R114 -/

theorem test_decode_system : decodeTableWord 16 0b0000000000000000 = some .nop ∧
    decodeTableWord 16 0b0000000100000000 = some .srst := by decide

theorem test_decode_control_word : decodeTableWord 16 0b0001000000000000 = some .encCw ∧
    decodeTableWord 16 0b0001000100000000 = some .decCw := by decide

theorem test_decode_frame : decodeTableWord 16 0b0010000000000000 = some .encFrame ∧
    decodeTableWord 16 0b0010000100000000 = some .decFrame ∧
    decodeTableWord 16 0b0010001000000000 = some .decAuto := by decide

theorem test_decode_block : decodeTableWord 16 0b0011000000000000 = some .encBh ∧
    decodeTableWord 16 0b0011000100000000 = some .decBh ∧ decodeTableWord 16 0b0011001000000000 = some .encBframe ∧
    decodeTableWord 16 0b0011001100000000 = some .decBframe := by decide

theorem test_decode_checksum : decodeTableWord 16 0b0100000000000000 = some .crcClr ∧
    decodeTableWord 16 0b0100000110100101 = some (.crcUpdb 0xA5) ∧
    decodeTableWord 16 0b0100001000000000 = some .crcUpdp ∧ decodeTableWord 16 0b0100001100000000 = some .crcGet ∧
    decodeTableWord 16 0b0100010000000000 = some .crcChk := by decide

theorem test_decode_payload : decodeTableWord 16 0b0101000000010010 = some (.encRstp 0x12) ∧
    decodeTableWord 16 0b0101000100000000 = some .decRstp ∧ decodeTableWord 16 0b0101001000000000 = some .encBackp ∧
    decodeTableWord 16 0b0101001100000000 = some .decBackp := by decide

theorem test_decode_correlator : decodeTableWord 16 0b0110000000000000 = some .tokAlloc ∧
    decodeTableWord 16 0b0110000100000000 = some .camIns ∧ decodeTableWord 16 0b0110001000000000 = some .camLook ∧
    decodeTableWord 16 0b0110001100000000 = some .camTake ∧
    decodeTableWord 16 0b0110010000001111 = some (.camDel 15) := by decide

theorem test_decode_codes : decodeTableWord 32 0b00000000000001000000010100000011 = some (.codeCon 0 1 5 3) ∧
    decodeTableWord 32 0b00111000000000000000000110000000 = some (.codeNon 1 512 1 128) ∧
    decodeTableWord 32 0b01010101010101101010101000000110 = some (.codeAck 1 0x155 0x2AA 6) ∧
    decodeTableWord 32 0b01100000000001000000010100000001 = some (.codeRst 0 1 5 1) ∧
    decodeTableWord 32 0b10000000000001000000010100000010 = some (.codeBack 0 1 5 2) := by decide +kernel

/-- 95_test_vectors 2.6: words that name no instruction. -/
theorem test_decode_reserved : decodeTableWord 16 0x0001 = none ∧ decodeTableWord 16 0x0200 = none ∧
    decodeTableWord 16 0x2201 = none ∧ decodeTableWord 16 0x6001 = none ∧ decodeTableWord 16 0xFFFF = none ∧
    decodeTableWord 32 0xA0000000 = none ∧ decodeTableWord 32 0xFFFFFFFF = none := by decide +kernel

theorem test_decode_rejects_by_name : decodeCommand false 0x6000 = .error .correlatorAbsent ∧
    decodeCommand true 0x1001 = .error .immediateNotZero ∧ decodeCommand true 0x7000 = .error .opcodeNotInMap ∧
    decodeDatagram Config.default [0xE0, 0x00] = .error .shortControlWord ∧
    decodeDatagram Config.default [0xA0, 4, 5, 0] = .error .reservedCode := ⟨rfl, rfl, rfl, rfl, rfl⟩

/-! ## System commands (95_test_vectors 2.6) -/

theorem test_nop : nextHas (runs 0x0000 { small with status := 0x11, flags := 0x1 })
    (fun t => t.status == 0x00 && t.flags == 0x1) = true := by decide

theorem test_srst : runs 0x0100 { stored with fRid := 7, mem := ⟨[1, 2], [3]⟩, crcAcc := 0x807E, tokCnt := 1 } =
    .next small := rfl

theorem test_reserved_word : runs 0x1001 { small with fRid := 7, mem := ⟨[1, 2], [3]⟩, crcAcc := 0x807E } =
    .next { small with fRid := 7, mem := ⟨[1, 2], [3]⟩, crcAcc := 0x807E, status := 0x03 } := rfl

theorem test_reserved_without_correlator : nextHas (runs 0x6000 bare) (fun t => t.status == 0x03) = true ∧
    nextHas (exec .tokAlloc bare) (fun t => t.status == 0x03) = true := by decide

/-! ## Control word (95_test_vectors 2.1) -/

theorem test_encCw : nextHas (runs 0x1000 (withFields 2 1 0x155 0x2AA 6))
    (fun t => t.status == 0x00 && t.mem.wire == [0x55, 0x56, 0xAA, 0x06]) = true := by decide

theorem test_encCw_reserved : nextHas (runs 0x1000 (withFields 5 0 1 5 3))
    (fun t => t.status == 0x72 && t.mem.wire == []) = true := by decide

theorem test_decCw : nextHas (runs 0x1100 (withWire [0x55, 0x56, 0xAA, 0x06, 0x99]))
    (fun t => t.status == 0x00 && t.controlWord == ⟨2, 1, 0x155, 0x2AA, 6⟩ && t.flags == 0x0) = true := by decide

theorem test_decCw_reserved : nextHas (runs 0x1100 (withWire [0xC0, 0x04, 0x05, 0x03]))
    (fun t => t.status == 0x00 && t.controlWord == ⟨6, 0, 1, 5, 3⟩ && t.flags == 0x2) = true := by decide

/-! ## Frames (95_test_vectors 2.2) -/

theorem test_encFrame : nextHas (runs 0x2000 (withPay [1, 2, 3, 4, 5] (withFields 0 0 1 5 3)))
    (fun t => t.status == 0x00 && t.mem.wire == [0x00, 0x04, 0x05, 0x03, 1, 2, 3]) = true := by decide

theorem test_encFrame_short : nextHas (runs 0x2000 (withPay [1, 2] (withFields 0 0 1 5 3)))
    (fun t => t.status == 0x82 && t.mem.wire == []) = true := by decide

theorem test_decFrame : nextHas (runs 0x2100 (withWire [0x00, 0x04, 0x05, 0x03, 1, 2, 3, 0xEE]))
    (fun t => t.status == 0x00 && t.controlWord == ⟨0, 0, 1, 5, 3⟩ && t.mem.pay == [1, 2, 3]) = true := by decide

theorem test_decFrame_short : nextHas (runs 0x2100 (withWire [0x00, 0x04, 0x05, 0x03, 1, 2]))
    (fun t => t.status == 0x21 && t.fRid == 0) = true := by decide

theorem test_decAuto_rst : nextHas (runs 0x2200 (withWire [0x60, 0x04, 0x05, 0x01, 0x92]))
    (fun t => t.status == 0x00 && t.rRoute == 4 && t.rErr == 0x12 && t.flags == 0x4 && t.mem.pay == [0x92]) = true := by
  decide

/-- 90_conflicts C5: an RST of one byte with the block flag passes the one-byte test and fails `BH_NOFIT`. -/
theorem test_decAuto_order : nextHas (runs 0x2200 (withWire [0x70, 0x04, 0x05, 0x01, 0x92])) (fun t => t.status == 0x31) = true ∧
    nextHas (runs 0x2200 (withWire [0x70, 4, 5, 7, 0, 0, 0, 0, 0, 0, 0x92])) (fun t => t.status == 0x51) = true ∧
    nextHas (runs 0x2200 (withWire [0xA0, 4, 5, 9, 0])) (fun t => t.status == 0x71) = true := by decide

theorem test_codeCon : nextHas (exec (.codeCon 0 1 5 3) (withWire [0x00, 0x04, 0x05, 0x03, 1, 2, 3]))
    (fun t => t.status == 0x00 && t.rRoute == 1 && t.controlWord == ⟨0, 0, 1, 5, 3⟩ && t.mem.pay == [1, 2, 3]) = true := by
  decide

theorem test_codeNon : nextHas (exec (.codeNon 0 1 5 0) (withWire [0x20, 0x04, 0x05, 0x00]))
    (fun t => t.status == 0x00 && t.rRoute == 1 && t.fCode == 1 && t.mem.pay == []) = true := by decide

theorem test_codeAck_block : nextHas (exec (.codeAck 1 1 5 9)
      (withWire [0x50, 0x04, 0x05, 0x09, 0x12, 0x34, 0x00, 0x0A, 0x00, 0x00, 0x41, 0x42, 0x43]))
    (fun t => t.status == 0x00 && t.rRoute == 5 && t.blockHeader == ⟨0x1234, 10, 0⟩ && t.mem.pay == [0x41, 0x42, 0x43]) =
      true := by decide

theorem test_codeRst : nextHas (exec (.codeRst 0 1 5 1) (withWire [0x60, 0x04, 0x05, 0x01, 0x12]))
    (fun t => t.rRoute == 4 && t.rErr == 0x12 && t.flags == 0x0) = true := by decide

theorem test_codeBack : nextHas (exec (.codeBack 0 1 5 2) (withWire [0x80, 0x04, 0x05, 0x02, 0x00, 0xF9]))
    (fun t => t.status == 0x00 && t.rRoute == 3 && t.mem.pay == [0x00, 0xF9]) = true := by decide

/-- A control word of the table placed by `withFetchWord` is what the next step runs (log 6). -/
theorem test_withFetchWord_code : nextHas (step (State.reset.withFetchWord 32 0x40040502))
    (fun t => t.status == 0x00 && t.rRoute == 2 && t.controlWord == ⟨2, 0, 1, 5, 2⟩ && t.mem.pay == [0, 0]) = true := by
  decide

/-! ## Blocks (95_test_vectors 2.3) -/

theorem test_encBh : nextHas (runs 0x3000 (withHeader 249 small))
    (fun t => t.status == 0x00 && t.mem.wire == [0xC6, 0xBA, 0x01, 0xF5, 0x00, 0xF9]) = true := by decide

theorem test_decBh : nextHas (runs 0x3100 (withWire [0x00, 0x01, 0x01, 0x00, 0x80, 0x00, 0xAA, 0xBB]))
    (fun t => t.status == 0x00 && t.blockHeader == ⟨0x0001, 0x0100, 0x8000⟩) = true := by decide

theorem test_decBh_short : nextHas (runs 0x3100 (withWire [0xC6, 0xBA, 0x01, 0xF5, 0x00]))
    (fun t => t.status == 0x41 && t.fCrc == 0) = true := by decide

theorem test_encBframe : nextHas (runs 0x3200 (withPay [0xF2, 0xF3, 0xF4] (withHeader 498 (withFields 0 1 1 5 9))))
    (fun t => t.status == 0x00 && t.mem.wire ==
      [0x10, 0x04, 0x05, 0x09, 0xC6, 0xBA, 0x01, 0xF5, 0x01, 0xF2, 0xF2, 0xF3, 0xF4]) = true := by decide

theorem test_encBframe_order : nextHas (runs 0x3200 (withFields 7 0 0 0 3)) (fun t => t.status == 0x72) = true ∧
    nextHas (runs 0x3200 (withFields 0 0 0 0 3)) (fun t => t.status == 0x92) = true ∧
    nextHas (runs 0x3200 (withFields 0 1 0 0 5)) (fun t => t.status == 0x32) = true ∧
    nextHas (runs 0x3200 (withPay [1, 2, 3] (withFields 0 1 0 0 10))) (fun t => t.status == 0x82) = true := by decide

theorem test_decBframe : nextHas (runs 0x3300
      (withWire [0x00, 0x04, 0x05, 0x09, 0xC6, 0xBA, 0x01, 0xF5, 0x01, 0xF2, 0xF2, 0xF3, 0xF4]))
    (fun t => t.status == 0x00 && t.controlWord == ⟨0, 0, 1, 5, 9⟩ && t.blockHeader == ⟨0xC6BA, 0x01F5, 0x01F2⟩ &&
      t.mem.pay == [0xF2, 0xF3, 0xF4]) = true := by decide

theorem test_decBframe_fails : nextHas (runs 0x3300 (withWire [0x10, 4, 5, 5, 1, 2, 3, 4, 5])) (fun t => t.status == 0x31) = true ∧
    nextHas (runs 0x3300 (withWire [0x10, 4, 5, 9])) (fun t => t.status == 0x21) = true := by decide

/-! ## Checksum (95_test_vectors 2.4) -/

theorem test_crcClr : nextHas (runs 0x4000 { small with crcAcc := 0x1234, flags := 0x1 })
    (fun t => t.crcAcc == 0xFFFF && t.flags == 0x1) = true := by decide

theorem test_crcUpdb : nextHas (runs 0x4101 small) (fun t => t.status == 0x00 && t.crcAcc == 0x807E) = true := by decide +kernel

theorem test_crcUpdp : nextHas (runs 0x4200 (withPay [1, 2, 3] small))
    (fun t => t.crcAcc == 0x6161 && t.mem.pay == [1, 2, 3]) = true := by decide +kernel

/-- The parameter set of the row CRC-16/XMODEM: not reflected. -/
theorem test_crc_unreflected : crc16 { Config.default with crcPoly := 0x1021, crcInit := 0, crcRefin := false, crcRefout := false }
    [1, 2, 3] = 0x6131 := by decide +kernel

theorem test_crcGet : nextHas (runs 0x4300 small) (fun t => t.status == 0x00 && t.fCrc == 0xFFFF) = true := by decide

theorem test_crcChk : nextHas (runs 0x4400 { small with crcAcc := 0x4B37, fCrc := 0x4B37 }) (fun t => t.flags == 0x1) = true ∧
    nextHas (runs 0x4400 { small with crcAcc := 0x4B37, fCrc := 0x4B36, flags := 0x1 })
      (fun t => t.flags == 0x0 && t.status == 0x00) = true := by decide

/-! ## Payload helpers (95_test_vectors 2.5) -/

theorem test_encRstp : nextHas (runs 0x5012 small) (fun t => t.mem.pay == [0x92]) = true ∧
    nextHas (runs 0x50FF small) (fun t => t.mem.pay == [0xFF]) = true := by decide

theorem test_decRstp : nextHas (runs 0x5100 (withPay [0x12] { small with flags := 0x4 }))
    (fun t => t.status == 0x00 && t.rErr == 0x12 && t.flags == 0x0) = true := by decide

theorem test_decRstp_length : nextHas (runs 0x5100 (withPay [0x92, 0x00] small)) (fun t => t.status == 0x51) = true := by decide

theorem test_encBackp : nextHas (runs 0x5200 (withHeader 249 small)) (fun t => t.mem.pay == [0x00, 0xF9]) = true := by decide

theorem test_decBackp : nextHas (runs 0x5300 (withPay [0x01, 0xF5] small)) (fun t => t.fOffset == 501) = true ∧
    nextHas (runs 0x5300 (withPay [0xF9] small)) (fun t => t.status == 0x61) = true := by decide

/-! ## Correlator (95_test_vectors 2.7) -/

theorem test_tokAlloc_wraps : nextHas (runs 0x6000 { small with tokCnt := 1023 })
    (fun t => t.fToken == 1023 && t.tokCnt == 0) = true := by decide

theorem test_camIns : nextHas (runs 0x6100 keyed) (fun t => t.status == 0x00 && t.rSlot == 0 && t.cam == stored.cam) = true := by
  decide

theorem test_camIns_full : nextHas (runs 0x6100 { full with rSlot := 3 })
    (fun t => t.status == 0x04 && t.rSlot == 3) = true := by decide

theorem test_camLook : nextHas (runs 0x6200 { stored with fCode := 2 })
    (fun t => t.flags == 0x8 && t.rTag == 0x00A1 && t.rSlot == 0 && t.cam == stored.cam) = true := by decide

theorem test_camLook_useCode : nextHas (runs 0x6200 { stored with kUseCode := 1, flags := 0x8, rTag := 7 })
    (fun t => t.flags == 0x0 && t.rTag == 7) = true := by decide

theorem test_camTake : nextHas (runs 0x6300 stored)
    (fun t => t.flags == 0x8 && t.rTag == 0x00A1 && (t.entry 0).valid == false) = true := by decide

theorem test_camTake_miss : nextHas (runs 0x6300 { stored with kAddr := 0x2141000000000402, flags := 0x8 })
    (fun t => t.flags == 0x0 && t.status == 0x00 && t.cam == stored.cam) = true := by decide

theorem test_camDel : nextHas (runs 0x6400 stored) (fun t => t.flags == 0x8 && (t.entry 0).valid == false) = true ∧
    nextHas (runs 0x6401 stored) (fun t => t.flags == 0x0 && t.status == 0x00) = true := by decide

theorem test_camDel_badSlot : nextHas (runs 0x6404 stored) (fun t => t.status == 0xA2 && t.flags == 0x0) = true := by decide

/-! ## The host port (95_test_vectors 2.8) -/

/-- One step that carries out a transaction. -/
def does (tr : Transaction) (s : State) : StepOutcome := step { s with pending := [tr] }

theorem test_port_accesses : nextHas (does (.regWrite 0x04 0x3FF) small) (fun t => t.fRid == 0x3FF) = true ∧
    nextHas (does (.regRead 0x0A) (withWire [1, 2, 3])) (fun t => t.reply == .value 3) = true ∧
    nextHas (does (.regRead 0x17) { stored with rTag := 1, rSlot := 2 }) (fun t => t.reply == .value 2) = true ∧
    nextHas (does (.read .wire) (withWire [1, 2, 3])) (fun t => t.reply == .bytes [1, 2, 3]) = true ∧
    nextHas (does (.load .pay []) (withPay [1] small)) (fun t => t.mem.pay == [] && t.status == 0x00) = true := by decide

theorem test_port_refusals : refuses (does (.regWrite 0x00 0) small) (.registerReadOnly 0x00) = true ∧
    refuses (does (.regRead 0x0F) small) (.registerUnimplemented 0x0F) = true ∧
    refuses (does (.regRead 0x17) bare) (.registerAbsent 0x17) = true ∧
    refuses (does (.regWrite 0x04 0x400) small) (.valueTooWide 0x04 0x400) = true ∧
    refuses (does (.load .pay [1, 2]) { small with cfg := { small.cfg with payCap := 1 } }) (.loadTooLong .pay 2) = true := by
  decide

theorem test_port_reset : does .reset { stored with status := 0x11, mem := ⟨[1], [2]⟩ } = .next small := rfl

theorem test_idle : step stored = .next stored := rfl

/-! ## Witnesses: for each statement with hypotheses, states and operands that meet them, clause by clause -/

/-- `DecodeOfEncodeIsTheInstruction`. -/
theorem witness_decode_of_encode : Config.default.Wf ∧ Instr.Wf Config.default (.camDel 0xFF) ∧
    Instr.Wf Config.default (.codeBack 1 0x3FF 0x3FF 0xFF) := by decide

/-- `EncodeOfDecodeIsTheWord`. -/
theorem witness_encode_of_decode : decode Config.default (.command 0x41FF) = .ok (.crcUpdb 0xFF) ∧
    decode Config.default (.controlWord 0x9FFFFFFF) = .ok (.codeBack 1 0x3FF 0x3FF 0xFF) := ⟨rfl, rfl⟩

/-- A word the map accepts, in the words of `CommandDecoderFollowsTheMap`. -/
abbrev accepted (hasCorr : Bool) (w : Word16) : Prop := ∃ row ∈ opcodeMap, row.1 = w.extractLsb' 8 8 ∧
  (0x60 ≤ row.1.toNat → hasCorr = true) ∧ (row.2 = .c0 → w.extractLsb' 0 8 = 0)

/-- `CommandDecoderFollowsTheMap`, the accepted words: the first and last opcode, both formats, with and without a
correlator. -/
theorem witness_accepted : accepted true 0x0000 ∧ accepted true 0x64FF ∧ accepted false 0x41FF ∧ accepted false 0x5300 := by
  decide

/-- `CommandDecoderFollowsTheMap`, the others. -/
theorem witness_not_accepted : ¬accepted true 0x0001 ∧ ¬accepted true 0x6500 ∧ ¬accepted false 0x6000 ∧
    ¬accepted true 0x5401 := by decide

/-- `StepRunsTheDecodedCommand`. -/
theorem witness_step_runs : decodeCommand small.cfg.hasCorr 0x5012 = .ok (.encRstp 0x12) ∧
    decodeCommand bare.cfg.hasCorr 0x2200 = .ok .decAuto := ⟨rfl, rfl⟩

/-- `DecAutoRunsTheControlWord`. -/
theorem witness_decAuto_runs :
    decodeDatagram small.cfg (withWire [0x00, 0x04, 0x05, 0x03, 1, 2, 3]).mem.wire = .ok (.codeCon 0 1 5 3) ∧
    decodeControlWord small.cfg 0x60040501 = .ok (.codeRst 0 1 5 1) := ⟨rfl, rfl⟩

/-- `CodeClassFollowsTheParameters`: the hypothesis, and a value on each side of the last clause. -/
theorem witness_codeClass : small.cfg.Wf ∧ codeClass small.cfg 4 = .back ∧ codeClass small.cfg 5 = .reserved := by decide

/-- `EncCwPacksTheFields` and the first clause of `ControlWordCommandsRoundTrip`. -/
theorem witness_encCw : codeClass small.cfg (withFields 5 0 1 5 3).fCode = .reserved ∧
    codeClass small.cfg (withFields 4 0 1 5 3).fCode ≠ .reserved := by decide

/-- `DecCwUnpacksTheFirstFourBytes`: one byte too few, and exactly four. -/
theorem witness_decCw : (withWire [0x00, 0x04, 0x05]).mem.wire.length < 4 ∧
    (withWire [0xFF, 0xFF, 0xFF, 0xFF]).mem.wire = 0xFF :: 0xFF :: 0xFF :: 0xFF :: [] := by decide

/-- `ControlWordCommandsRoundTrip`, second clause. -/
theorem witness_decCw_round_trip : (withWire [0x00, 0x04, 0x05, 0x03]).mem.wire = 0x00 :: 0x04 :: 0x05 :: 0x03 :: [] ∧
    codeClass small.cfg ((0x00 : Byte).extractLsb' 5 3) ≠ .reserved := by decide

/-- `EncFrameBuildsTheDatagram`: reserved, one payload byte too few, exactly enough; and the first clause of
`FrameFamilyLaws`. -/
theorem witness_encFrame : codeClass small.cfg (withFields 5 0 1 5 3).fCode = .reserved ∧
    (codeClass small.cfg (withFields 0 0 1 5 3).fCode ≠ .reserved ∧
      (withPay [1, 2] (withFields 0 0 1 5 3)).mem.pay.length < (withFields 0 0 1 5 3).fPlen.toNat ∧
      (withFields 0 0 1 5 3).fPlen.toNat ≤ (withPay [1, 2, 3] (withFields 0 0 1 5 3)).mem.pay.length) := by decide

/-- `DecFrameTakesTheDatagramApart`: no control word, one payload byte too few, exactly enough. -/
theorem witness_decFrame : (withWire [0x00, 0x04]).mem.wire.length < 4 ∧
    (withWire [0x00, 0x04, 0x05, 0x03, 1, 2]).mem.wire = 0x00 :: 0x04 :: 0x05 :: 0x03 :: [1, 2] ∧
    [1, 2].length < (0x03 : Byte).toNat ∧
    (withWire [0x00, 0x04, 0x05, 0x03, 1, 2, 3]).mem.wire = 0x00 :: 0x04 :: 0x05 :: 0x03 :: [1, 2, 3] ∧
    (0x03 : Byte).toNat ≤ [1, 2, 3].length := by decide

/-- `DecAutoReceivesAndRoutes`: no control word, a reserved code, and each class. -/
theorem witness_decAuto : (withWire [0x60, 0x04]).mem.wire.length < 4 ∧
    (withWire [0xA0, 4, 5, 0]).mem.wire = 0xA0 :: 4 :: 5 :: 0 :: [] ∧
    codeClass small.cfg (cwOfBytes 0xA0 4 5 0).code = .reserved ∧ codeClass small.cfg (cwOfBytes 0x00 4 5 3).code = .con ∧
    codeClass small.cfg (cwOfBytes 0x20 4 5 0).code = .non ∧ codeClass small.cfg (cwOfBytes 0x40 4 5 2).code = .ack ∧
    codeClass small.cfg (cwOfBytes 0x60 4 5 1).code = .rst ∧ codeClass small.cfg (cwOfBytes 0x80 4 5 2).code = .back := by
  decide

/-- The failing clauses of `runsAsFrontEnd` (`DecAutoReceivesAndRoutes`, `ControlWordRowsRunTheFrontEnd`) at their
boundaries: `RST_LEN` at 0 and 2, `BH_NOFIT` at 5 and for an RST of one byte, `SHORT_FRAME` by one byte. -/
theorem witness_frontEnd_fails : ((cwOfBytes 0x60 4 5 0).plen ≠ 1 ∧ (cwOfBytes 0x60 4 5 2).plen ≠ 1) ∧
    ((cwOfBytes 0x10 4 5 5).bf = 1 ∧ (cwOfBytes 0x10 4 5 5).plen.toNat < 6) ∧
    ((cwOfBytes 0x70 4 5 1).plen = 1 ∧ (cwOfBytes 0x70 4 5 1).bf = 1 ∧ (cwOfBytes 0x70 4 5 1).plen.toNat < 6) ∧
    (((cwOfBytes 0x10 4 5 6).bf = 1 → 6 ≤ (cwOfBytes 0x10 4 5 6).plen.toNat) ∧
      [1, 2, 3, 4, 5].length < (cwOfBytes 0x10 4 5 6).plen.toNat) := by decide

/-- The accepting clauses of `runsAsFrontEnd`: a block of exactly six bytes, a plain frame of exactly its length, an RST. -/
theorem witness_frontEnd_accepts : ((cwOfBytes 0x10 4 5 6).bf = 1 ∧ 6 ≤ (cwOfBytes 0x10 4 5 6).plen.toNat ∧
      (cwOfBytes 0x10 4 5 6).plen.toNat ≤ [0xC6, 0xBA, 0x01, 0xF5, 0x00, 0x00].length) ∧
    ((cwOfBytes 0x00 4 5 3).bf = 0 ∧ (cwOfBytes 0x00 4 5 3).plen.toNat ≤ [1, 2, 3].length) ∧
    ((cwOfBytes 0x60 4 5 1).plen = 1 ∧ (cwOfBytes 0x60 4 5 1).bf = 0 ∧ ([0x92] : List Byte) = 0x92 :: []) := by decide

/-- `ControlWordRowsRunTheFrontEnd`: a datagram of four bytes and more. -/
theorem witness_control_word_rows :
    (withWire [0x40, 0x04, 0x05, 0x02, 0xAB, 0xCD]).mem.wire = 0x40 :: 0x04 :: 0x05 :: 0x02 :: [0xAB, 0xCD] := rfl

/-- `FrameFamilyLaws`, second clause. -/
theorem witness_decFrame_done : ∃ t, exec .decFrame (withWire [0x00, 0x04, 0x05, 0x03, 1, 2, 3]) = .next t ∧
    (t.status == 0x00 && codeClass small.cfg t.fCode != .reserved) = true := exists_of_nextHas (by decide)

/-- `FrameFamilyLaws`, third clause, both forms of frame. -/
theorem witness_decAuto_done : (∃ t, exec .decAuto (withWire [0x00, 0x04, 0x05, 0x03, 1, 2, 3]) = .next t ∧
      (t.status == 0x00 && t.fBf == 0) = true) ∧
    ∃ t, exec .decAuto (withWire [0x10, 4, 5, 6, 0, 0, 0, 0, 0, 0]) = .next t ∧ (t.status == 0x00 && t.fBf == 1) = true :=
  ⟨exists_of_nextHas (by decide), exists_of_nextHas (by decide)⟩

/-- `FrameFamilyLaws`, fourth clause. -/
theorem witness_decAuto_fails : ∃ t, exec .decAuto (withWire [0x00, 0x04, 0x05, 0x03, 1, 2]) = .next t ∧
    (t.status != 0x00) = true := exists_of_nextHas (by decide)

/-- `DecBhReadsTheHeader`: one byte too few, and exactly six. -/
theorem witness_decBh : (withWire [0xC6, 0xBA, 0x01, 0xF5, 0x00]).mem.wire.length < 6 ∧
    (withWire [0xC6, 0xBA, 0x01, 0xF5, 0x00, 0xF9]).mem.wire = 0xC6 :: 0xBA :: 0x01 :: 0xF5 :: 0x00 :: 0xF9 :: [] := by decide

/-- `EncBframeBuildsTheDatagram`, clause by clause, at lengths 5, 6 and one byte short; the last is also the second clause
of `BlockFamilyLaws`. -/
theorem witness_encBframe : codeClass small.cfg (withFields 7 1 0 0 9).fCode = .reserved ∧
    (codeClass small.cfg (withFields 0 0 0 0 9).fCode ≠ .reserved ∧ (withFields 0 0 0 0 9).fBf = 0) ∧
    ((withFields 0 1 0 0 5).fBf = 1 ∧ (withFields 0 1 0 0 5).fPlen.toNat < 6) ∧
    (6 ≤ (withFields 0 1 0 0 7).fPlen.toNat ∧ (withFields 0 1 0 0 7).mem.pay.length < (withFields 0 1 0 0 7).fPlen.toNat - 6) ∧
    (codeClass small.cfg (withFields 0 1 0 0 6).fCode ≠ .reserved ∧ 6 ≤ (withFields 0 1 0 0 6).fPlen.toNat ∧
      (withFields 0 1 0 0 6).fPlen.toNat - 6 ≤ (withFields 0 1 0 0 6).mem.pay.length) := by decide

/-- `DecBframeTakesTheDatagramApart`, clause by clause. -/
theorem witness_decBframe : (withWire [0x10, 0x04, 0x05]).mem.wire.length < 4 ∧ (0x05 : Byte).toNat < 6 ∧
    (6 ≤ (0x06 : Byte).toNat ∧ [0, 0, 0, 0, 0].length < (0x06 : Byte).toNat) ∧
    (6 ≤ (0x06 : Byte).toNat ∧ (0x06 : Byte).toNat ≤ [0, 0, 0, 0, 0, 0].length ∧
      (withWire [0x10, 4, 5, 6, 0, 0, 0, 0, 0, 0]).mem.wire = 0x10 :: 4 :: 5 :: 6 :: 0 :: 0 :: 0 :: 0 :: 0 :: 0 :: []) := by
  decide

/-- `BlockFrameIsAFrameWithTheHeaderInFront`, first clause. -/
theorem witness_encBframe_done : ∃ t, exec .encBframe (withPay [0xF2] (withFields 0 1 1 5 7)) = .next t ∧
    (t.status == 0x00) = true := exists_of_nextHas (by decide)

/-- `BlockFrameIsAFrameWithTheHeaderInFront`, second clause, and `BlockFamilyLaws`, third clause. -/
theorem witness_decBframe_done : ∃ t, exec .decBframe (withWire [0x10, 4, 5, 7, 0, 0, 0, 0, 0, 0, 0xF2]) = .next t ∧
    (t.status == 0x00 && codeClass small.cfg t.fCode != .reserved && t.fBf == 1) = true := exists_of_nextHas (by decide)

/-- `CrcChkComparesWithFCrc`, both clauses, at the accumulator of the empty payload. -/
theorem witness_crcChk : crcFinal small.cfg small.crcAcc = (0xFFFF : Word16) ∧
    crcFinal small.cfg small.crcAcc ≠ small.fCrc := by decide +kernel

/-- `CrcUpdpFeedsEveryByteInOrder`: a payload with a byte. -/
theorem witness_crcUpdp : (withPay [7] small).mem.byte .pay 0 = some 7 := rfl

/-- The pieces of `ChecksumDoesNotDependOnChunking`. -/
def pieces : List Piece := [.byte 1, .chunk [2, 3]]

/-- `ChecksumDoesNotDependOnChunking`: the pieces fit, and each form of the pending transactions. -/
theorem witness_chunking : (∀ chunk, .chunk chunk ∈ pieces → chunk.length ≤ small.cfg.payCap) ∧
    pieces.flatMap Piece.transactions ++ [.cmd 0x0000] = [.cmd 0x4101, .load .pay [2, 3], .cmd 0x4200, .cmd 0x0000] ∧
    .cmd 0x4000 :: pieces.flatMap Piece.transactions ++ .cmd 0x4300 :: [] =
      [.cmd 0x4000, .cmd 0x4101, .load .pay [2, 3], .cmd 0x4200, .cmd 0x4300] := by
  refine ⟨fun chunk h => ?_, by decide, by decide⟩
  simp [pieces] at h
  subst h
  decide

/-- `DecRstpReadsTheResetByte`: no byte, two bytes, one. -/
theorem witness_decRstp : small.mem.pay.length ≠ 1 ∧ (withPay [1, 2] small).mem.pay.length ≠ 1 ∧
    (withPay [0x92] small).mem.pay = [0x92] := by decide

/-- `DecBackpReadsTheOffset`: one byte, three bytes, two. -/
theorem witness_decBackp : (withPay [0xF9] small).mem.pay.length ≠ 2 ∧ (withPay [0, 0xF9, 0] small).mem.pay.length ≠ 2 ∧
    (withPay [0, 0xF9] small).mem.pay = [0, 0xF9] := by decide

/-- `TokAllocDeliversTheCounter`, and the first hypothesis of the other correlator statements. -/
theorem witness_correlator : small.cfg.hasCorr = true ∧ stored.cfg.hasCorr = true ∧ full.cfg.hasCorr = true := by decide

/-- `CamInsFillsTheLowestFreeSlot`: no free slot, slot 1 the lowest free one, and the last slot of the table. -/
theorem witness_camIns : (∀ k < full.cfg.camDepth, (full.entry k).valid = true) ∧
    (1 < stored.cfg.camDepth ∧ (stored.entry 1).valid = false ∧ ∀ j < 1, (stored.entry j).valid = true) ∧
    3 < stored.cam.length := by decide

/-- A slot that has the key, at slot 0; the boundary clause `∀ j < 0` is empty there. -/
theorem stored_slotHasKey : slotHasKey stored 0 ∧ slotHasKey storedAny 0 := by
  constructor <;> exact ⟨rfl, rfl, rfl, rfl, rfl, rfl, rfl, rfl⟩

/-- No slot of an empty table has the key. -/
theorem small_not_slotHasKey : ∀ k < small.cfg.camDepth, ¬slotHasKey small k := by
  intro k hk h
  have h0 : ∀ k < 4, (small.entry k).valid = false := by decide
  exact absurd (h0 k hk ▸ h.1) (by decide)

/-- `CamLookReportsAMatchingSlot` and `CamTakeRemovesTheSlotThatAnswers` under `LOWEST_SLOT`. -/
theorem witness_lookup_lowest : small.cfg.camMatchPolicy = .lowestSlot ∧ (∀ k < small.cfg.camDepth, ¬slotHasKey small k) ∧
    (stored.cfg.camMatchPolicy = .lowestSlot ∧ 0 < stored.cfg.camDepth ∧ slotHasKey stored 0 ∧ ∀ j < 0, ¬slotHasKey stored j) :=
  ⟨rfl, small_not_slotHasKey, rfl, by decide, stored_slotHasKey.1, by intro j hj; omega⟩

/-- `small` under `CAM_MATCH_POLICY = ANY`. -/
def smallAny : State := { small with cfg := { small.cfg with camMatchPolicy := .any } }

/-- The same two statements under `ANY`. -/
theorem witness_lookup_any : smallAny.cfg.camMatchPolicy = .any ∧ (∀ k < smallAny.cfg.camDepth, ¬slotHasKey smallAny k) ∧
    (storedAny.cfg.camMatchPolicy = .any ∧ ∃ k < storedAny.cfg.camDepth, slotHasKey storedAny k) :=
  ⟨rfl, fun k hk h => small_not_slotHasKey k hk h, rfl, 0, by decide, stored_slotHasKey.2⟩

/-- `CamDelRemovesByNumber`: the first slot number past the table, and the last inside. -/
theorem witness_camDel : small.cfg.camDepth ≤ (4 : Byte).toNat ∧ (3 : Byte).toNat < small.cfg.camDepth := by decide

/-- `AbsentCorrelatorOpcodesAreReserved`. -/
theorem witness_bare : bare.cfg.hasCorr = false := rfl

/-- The invariant holds of a state with an entry in its table. -/
theorem stored_wf : StateWf stored where
  config := by decide
  memory := by decide
  status := by decide
  route := by decide
  tableSize := by decide
  tableFits := by
    intro e he
    simp only [stored, List.mem_cons, List.mem_replicate] at he
    rcases he with rfl | ⟨_, rfl⟩ <;> decide
  protoFits := by decide
  pipeFits := by decide
  addrFits := by decide
  keyTagFits := by decide
  foundTagFits := by decide
  slotFits := by decide

/-- `EveryStepKeepsTheInvariant`: a well-formed state whose step goes on. -/
theorem witness_invariant : StateWf stored ∧ ∃ t, step stored = .next t := ⟨stored_wf, _, rfl⟩

/-- `AnEntryIsTakenAtMostOnce`: the entry in slot 0 is taken by a `CAM_TAKE`, and by a `CAM_DEL 0`. -/
theorem witness_taken : StateWf stored ∧ (∃ u, exec .camTake stored = .next u ∧ reportsHitOn 0 .camTake u) ∧
    ∃ u, exec (.camDel 0) stored = .next u ∧ reportsHitOn 0 (.camDel 0) u :=
  ⟨stored_wf, ⟨_, rfl, rfl, by decide, .inl ⟨.inr rfl, rfl⟩⟩, _, rfl, rfl, by decide, .inr ⟨0, rfl, rfl⟩⟩

/-- `stored` with the host about to look twice for the key. -/
def looking : State := { stored with pending := [.cmd 0x6200, .cmd 0x6200] }

/-- `AnEntryIsTakenAtMostOnce`, after the taking: a run of one step that does not fill slot 0. -/
theorem witness_not_refilled : ∃ u, exec .camTake looking = .next u ∧ neverFills 0 1 u ∧ ∃ t, core.run 1 u = .next t := by
  refine ⟨_, rfl, ?_, _, rfl⟩
  intro m hm u hu hp _
  obtain rfl : m = 0 := by omega
  cases hu
  exact absurd hp (by decide)

/-- `AFailureChangesOnlyStatus` and the second clause of `BuffersOutsideTheTableAreUnchanged`. -/
theorem witness_failure : ∃ t, exec .decCw (withWire [0]) = .next t ∧ (t.status.extractLsb' 0 4 != 0) = true :=
  exists_of_nextHas (by decide)

/-- `StatusIsAlwaysAListedValue`, second and third clause. -/
theorem witness_never_fails : (neverFails .tokAlloc = true ∧ Instr.Wf small.cfg .tokAlloc) ∧
    ({ small with pending := [.cmd 0x1001] } : State).pending.head? = some (.cmd 0x1001) ∧
    ∃ t, step { small with pending := [.cmd 0x1001] } = .next t := ⟨by decide, rfl, _, rfl⟩

/-- `RegistersOutsideTheRowAreUnchanged`, `BuffersOutsideTheTableAreUnchanged`, `FlagsKeepTheirValuesOtherwise`. -/
theorem witness_frames : (∃ t, exec .encCw small = .next t) ∧ Reg.fRid ∉ mayWrite .encCw ∧ mayWriteTable .encCw = false ∧
    Buf.pay ∉ mayReplace .encCw ∧ Flag.hit ∉ mayWriteFlag .encCw := ⟨⟨_, rfl⟩, by decide, rfl, by decide, by decide⟩

/-- `CodecCommandsAreIdempotent`. -/
theorem witness_idempotent : idempotentCodec .encBackp = true ∧ ∃ t, exec .encBackp small = .next t := ⟨rfl, _, rfl⟩

/-- `PortRefusesExactlyWhatIsOutside`, both clauses. -/
theorem witness_port : Transaction.wf small.cfg (.regWrite 0x15 0xFFFF) = true ∧
    Transaction.wf small.cfg (.regWrite 0x15 0x10000) = false := by decide

/-- `ReadsAndLoadsDoOnlyWhatTheySay`: a register that needs the correlator, loads within capacity, and by one
byte over it. -/
theorem witness_reads : small.cfg.hasCorr = true ∧ (regIsCorrelator .rSlot = true → small.cfg.hasCorr = true) ∧ [1, 2].length ≤ small.cfg.wireCap ∧
    [1, 2].length ≤ small.cfg.payCap ∧ small.cfg.wireCap < (List.replicate 260 (0 : Byte)).length ∧
    small.cfg.payCap < (List.replicate 256 (0 : Byte)).length := by
  simp only [List.length_replicate]
  decide

/-- `RegWriteIsReadBackAndChangesNothingElse`: a correlator register at its largest value, and one of no correlator. -/
theorem witness_regWrite : (regWritable .kUseCode = true ∧ (regIsCorrelator .kUseCode = true → small.cfg.hasCorr = true) ∧
      1 < 2 ^ regWidth small.cfg .kUseCode) ∧
    (regWritable .fRid = true ∧ (regIsCorrelator .fRid = true → bare.cfg.hasCorr = true) ∧
      0x3FF < 2 ^ regWidth bare.cfg .fRid) := by decide

/-- `TransactionsInOrderConfigurationFixed`. -/
theorem witness_order : (∃ t, step { small with pending := [.reset] } = .next t) ∧ small.pending = [] := ⟨⟨_, rfl⟩, rfl⟩

/-- `ResetIsWellFormed`: a legal configuration other than the default. -/
theorem witness_reset_wf : small.cfg.Wf ∧ bare.cfg.Wf := by decide

end Sys2Proof.Tests
end

section
/-! The register map of 10_state R26: the numbering and its inverse, which numbers name a register of a configuration, and
the width of a length view. -/

namespace Sys2Proof.Machine

/-- Every register stands in the list `regOfNumber` searches. -/
@[simp] theorem mem_allRegs (r : Reg) : r ∈ allRegs := by
  cases r <;> simp [allRegs]

@[simp] theorem regOfNumber_regNumber (r : Reg) : regOfNumber (regNumber r) = some r := by
  cases r <;> rfl

theorem regOfNumber_eq_some_iff {n : Nat} {r : Reg} : regOfNumber n = some r ↔ regNumber r = n := by
  constructor
  · intro found
    simpa using List.find?_some found
  · rintro rfl
    exact regOfNumber_regNumber r

theorem regIsCorrelator_eq_true_iff {r : Reg} : regIsCorrelator r = true ↔ 0x10 ≤ regNumber r := decide_eq_true_iff

/-- The numbers of the table, without regard to the configuration: 0x0F alone is left out below 0x18. -/
theorem exists_regNumber_eq_iff {n : Nat} : (∃ r, regNumber r = n) ↔ n ≤ 0x0E ∨ (0x10 ≤ n ∧ n ≤ 0x17) := by
  constructor
  · rintro ⟨r, rfl⟩
    cases r <;> decide
  · intro inRange
    have named : ∀ m < 0x18, m ≠ 0x0F → (regOfNumber m).isSome = true := by decide
    obtain ⟨r, hr⟩ := Option.isSome_iff_exists.mp (named n (by omega) (by omega))
    exact ⟨r, regOfNumber_eq_some_iff.mp hr⟩

/-- A number is present when it names a register and the configuration has that register. -/
theorem regPresent_eq_true_iff {c : Config} {n : Nat} :
    regPresent c n = true ↔ ∃ r, regNumber r = n ∧ (regIsCorrelator r = true → c.hasCorr = true) := by
  simp only [← regOfNumber_eq_some_iff, regPresent]
  cases regOfNumber n with
  | none => simp
  | some r => cases hr : regIsCorrelator r <;> simp [hr]

theorem regPresent_eq_true_iff_range {c : Config} {n : Nat} :
    regPresent c n = true ↔ n ≤ 0x0E ∨ (0x10 ≤ n ∧ n ≤ 0x17 ∧ c.hasCorr = true) := by
  rw [regPresent_eq_true_iff]
  constructor
  · rintro ⟨r, rfl, corr⟩
    obtain low | ⟨ge, le⟩ := exists_regNumber_eq_iff.mp ⟨r, rfl⟩
    · exact .inl low
    · exact .inr ⟨ge, le, corr (regIsCorrelator_eq_true_iff.mpr ge)⟩
  · rintro (low | ⟨ge, le, corr⟩)
    · obtain ⟨r, rfl⟩ := exists_regNumber_eq_iff.mpr (.inl low)
      exact ⟨r, rfl, fun h => absurd (regIsCorrelator_eq_true_iff.mp h) (by omega)⟩
    · obtain ⟨r, rfl⟩ := exists_regNumber_eq_iff.mpr (.inr ⟨ge, le⟩)
      exact ⟨r, rfl, fun _ => corr⟩

/-- The registers marked `RW` in 10_state R26. -/
theorem regWritable_eq_true_iff_mem (r : Reg) : regWritable r = true ↔
    r ∈ [.fCode, .fBf, .fRid, .fToken, .fPlen, .fCrc, .fTotal, .fOffset, .crcAcc, .kProto, .kPipe, .kAddr, .kUseCode,
      .kTag] := by
  cases r <;> simp [regWritable]

/-- `bitsToHold n` is the least width whose values reach `n` (10_state R40, R41). -/
theorem bitsToHold_le_iff {n w : Nat} : bitsToHold n ≤ w ↔ n < 2 ^ w := by
  by_cases zero : n = 0
  · simp [bitsToHold, zero]
  · rw [bitsToHold, if_neg zero, Nat.succ_le_iff, Nat.log2_lt zero]

end Sys2Proof.Machine

namespace Sys2Proof.Proofs

open Machine

/-- Settles O55: the table's rows by evaluation, the numbers by the inverse of the numbering, the length views by
`bitsToHold_le_iff`. -/
theorem registerMapIsTheTable : Obligations.RegisterMapIsTheTable := by
  refine ⟨fun _ => rfl, fun r => ⟨mem_allRegs r, regOfNumber_regNumber r⟩, fun _ _ => regPresent_eq_true_iff_range,
    regWritable_eq_true_iff_mem, fun n => ⟨?_, fun _ => ?_⟩⟩
  · exact bitsToHold_le_iff.mp le_rfl
  · exact bitsToHold_le_iff.mpr

end Sys2Proof.Proofs
end

section
/-! What one step does when the waiting transaction is `RegRead`, `Read` or `Load` (10_state R21, R23; 20_memory R63). -/

namespace Sys2Proof.Machine

/-- The waiting list and the reply are no register (log 1). -/
@[simp] theorem State.readReg_withPort (s : State) (waiting : List Transaction) (answer : Reply) (r : Reg) :
    State.readReg { s with pending := waiting, reply := answer } r = s.readReg r := by
  cases r <;> rfl

theorem portLoad_eq_refused {s : State} {b : Buf} {bytes : List Byte} (long : bufCap s.cfg b < bytes.length) :
    portLoad b bytes s = .refused (.loadTooLong b bytes.length) := if_pos long

variable {s : State} {rest : List Transaction}

/-- `step_cons` on a state the waiting list is written into. -/
theorem step_pending_cons (tr : Transaction) :
    step { s with pending := tr :: rest } = carryOut tr { s with pending := rest, reply := .none } := step_cons rfl

theorem step_regRead {r : Reg} (present : regIsCorrelator r = true → s.cfg.hasCorr = true) :
    step { s with pending := .regRead (regNumber r) :: rest } =
      .next { s with pending := rest, reply := .value (s.readReg r) } := by
  rw [step_pending_cons, carryOut, portRegRead_eq_next]
  exact ⟨r, regOfNumber_regNumber r, present, by simp only [State.readReg_withPort]⟩

/-- `step_regRead` for the rows, number and value, of the registers that `shown` selects from the map. -/
theorem step_regRead_rows (shown : Reg → Bool)
    (present : ∀ r, shown r = true → regIsCorrelator r = true → s.cfg.hasCorr = true) :
    ∀ row ∈ (allRegs.filter shown).map fun r => (regNumber r, s.readReg r),
      step { s with pending := .regRead row.1 :: rest } =
        .next { s with pending := rest, reply := .value row.2 } := by
  simp only [List.forall_mem_map, List.mem_filter]
  rintro r ⟨-, selected⟩
  exact step_regRead (present r selected)

theorem step_read (b : Buf) :
    step { s with pending := .read b :: rest } =
      .next { s with pending := rest, reply := .bytes (s.mem.content b) } := by
  rw [step_pending_cons, carryOut, portRead_eq_next]

theorem step_load {b : Buf} {bytes : List Byte} (fits : bytes.length ≤ bufCap s.cfg b) :
    step { s with pending := .load b bytes :: rest } =
      .next { s with pending := rest, reply := .none, mem := s.mem.replace b bytes } := by
  rw [step_pending_cons, carryOut, portLoad_eq_next]
  exact ⟨fits, rfl⟩

theorem step_load_too_long {b : Buf} {bytes : List Byte} (long : bufCap s.cfg b < bytes.length) :
    step { s with pending := .load b bytes :: rest } = .refused (.loadTooLong b bytes.length) := by
  rw [step_pending_cons, carryOut]
  exact portLoad_eq_refused long

end Sys2Proof.Machine

namespace Sys2Proof.Proofs

open Machine

/-- Settles O56: the two tables are the register map without and with the correlator's rows, so `step_regRead_rows` reads
them; a `Read` or `Load` is one rule for both buffers, taken at each of the two. -/
theorem readsAndLoadsDoOnlyWhatTheySay : Obligations.ReadsAndLoadsDoOnlyWhatTheySay := by
  intro s rest
  refine ⟨?always, ?correlator, fun _ => step_regRead, step_read .wire, step_read .pay, fun _ => step_load (b := .wire),
    fun _ => step_load (b := .pay), fun _ long => ⟨_, step_load_too_long (b := .wire) long⟩,
    fun _ long => ⟨_, step_load_too_long (b := .pay) long⟩⟩
  case always =>
    exact step_regRead_rows (fun r => !regIsCorrelator r) fun _ plain corr => by simp [corr] at plain
  case correlator =>
    exact fun hasCorr => step_regRead_rows regIsCorrelator fun _ _ _ => hasCorr

end Sys2Proof.Proofs
end

section
/-! The command decoder on all words (30_encoding R107): the opcode map as a table, the words that have a meaning, and the
step that carries out a command word. -/

namespace Sys2Proof

open Machine

/-- `commandOf` has a meaning for every row of `opcodeMap`, in the row's format, whatever the immediate. -/
theorem commandOf_format_of_mem_opcodeMap (imm8 : Byte) :
    ∀ row ∈ opcodeMap, (commandOf row.1 imm8).map Prod.fst = some row.2 := by
  have columns : opcodeMap.map (fun row => (commandOf row.1 imm8).map Prod.fst) = opcodeMap.map (some ·.2) := rfl
  exact List.map_inj_left.mp columns

/-- What `commandOf` finds stands in `opcodeMap`, is a correlator command exactly from opcode 0x60 on, and encodes back to
its opcode with the immediate its format carries (30_encoding R97, R98, R104, R112). -/
theorem commandOf_eq_some {opc imm8 : Byte} {fmt : Format} {i : Instr} (found : commandOf opc imm8 = some (fmt, i)) :
    (opc, fmt) ∈ opcodeMap ∧ i.isCorrelator = decide (0x60 ≤ opc.toNat) ∧
      ∀ c, encode c i = commandWord opc (if fmt = .c0 then 0 else imm8) := by
  unfold commandOf at found
  split at found
  case h_26 => cases found
  all_goals
    cases found
    exact ⟨by decide, rfl, fun _ => rfl⟩

/-- The opcode and the immediate are the whole command word (30_encoding R96). -/
theorem commandWord_cmdOpc_cmdImm (w : Word16) : commandWord (cmdOpc w) (cmdImm w) = .command w :=
  congrArg EncodedWord.command BitVec.extractLsb'_append_extractLsb'

/-- The three tests of 30_encoding R107, passed. -/
theorem decodeCommand_eq_ok_iff {hasCorr : Bool} {w : Word16} {i : Instr} : decodeCommand hasCorr w = .ok i ↔
    ∃ fmt, commandOf (cmdOpc w) (cmdImm w) = some (fmt, i) ∧ (i.isCorrelator = true → hasCorr = true) ∧
      (fmt = .c0 → cmdImm w = 0) := by
  constructor
  · intro decoded
    unfold decodeCommand at decoded
    split at decoded
    case h_1 => cases decoded
    case h_2 fmt j found =>
      split at decoded
      case isTrue => cases decoded
      case isFalse present =>
        split at decoded
        case isTrue => cases decoded
        case isFalse immZero =>
          cases decoded
          exact ⟨fmt, found, by simpa using present, by simpa using immZero⟩
  · rintro ⟨fmt, found, corr, immZero⟩
    have present : ¬(i.isCorrelator = true ∧ hasCorr = false) := by simpa using corr
    have noImm : ¬(fmt = .c0 ∧ cmdImm w ≠ 0) := by simpa using immZero
    simp only [decodeCommand, found, if_neg present, if_neg noImm]

theorem encode_of_decodeCommand {hasCorr : Bool} {w : Word16} {i : Instr} (decoded : decodeCommand hasCorr w = .ok i)
    (c : Config) : encode c i = .command w := by
  obtain ⟨fmt, found, -, immZero⟩ := decodeCommand_eq_ok_iff.mp decoded
  obtain ⟨-, -, encoded⟩ := commandOf_eq_some found
  have carried : (if fmt = .c0 then 0 else cmdImm w) = cmdImm w := by
    split
    · next isC0 => exact (immZero isC0).symm
    · rfl
  rw [encoded, carried, commandWord_cmdOpc_cmdImm]

/-- The words with a meaning, as 30_encoding R107 describes them on the table of R104. -/
theorem exists_decodeCommand_eq_ok_iff {hasCorr : Bool} {w : Word16} : (∃ i, decodeCommand hasCorr w = .ok i) ↔
    ∃ row ∈ opcodeMap, row.1 = cmdOpc w ∧ (0x60 ≤ row.1.toNat → hasCorr = true) ∧ (row.2 = .c0 → cmdImm w = 0) := by
  simp only [decodeCommand_eq_ok_iff]
  constructor
  · rintro ⟨i, fmt, found, corr, immZero⟩
    obtain ⟨inMap, isCorr, -⟩ := commandOf_eq_some found
    exact ⟨_, inMap, rfl, fun high => corr (by simpa [isCorr] using high), immZero⟩
  · rintro ⟨⟨opc, fmt⟩, inMap, rfl, corr, immZero⟩
    obtain ⟨⟨_, i⟩, found, rfl⟩ := Option.map_eq_some_iff.mp (commandOf_format_of_mem_opcodeMap (cmdImm w) _ inMap)
    obtain ⟨-, isCorr, -⟩ := commandOf_eq_some found
    exact ⟨i, _, found, fun high => corr (by simpa [isCorr] using high), immZero⟩

end Sys2Proof

namespace Sys2Proof.Machine

variable {s : State} {w : Word16} {rest : List Transaction}

theorem step_cmd_ok {i : Instr} (decoded : decodeCommand s.cfg.hasCorr w = .ok i) :
    step { s with pending := .cmd w :: rest } = exec i { s with pending := rest, reply := .none } := by
  rw [step_pending_cons, carryOut, decoded]

theorem step_cmd_error {r : DecodeReject} (rejected : decodeCommand s.cfg.hasCorr w = .error r) :
    step { s with pending := .cmd w :: rest } = .next { s with pending := rest, reply := .none, status := 0x03 } := by
  rw [step_pending_cons, carryOut, rejected, reservedEncoding_eq_next]
  rfl

end Sys2Proof.Machine

namespace Sys2Proof.Proofs

open Machine

/-- Settles O3: a word has a meaning exactly when the table accepts it (`exists_decodeCommand_eq_ok_iff`); the step runs
that meaning, or else reports the reserved encoding. -/
theorem commandDecoderFollowsTheMap : Obligations.CommandDecoderFollowsTheMap := by
  intro s w rest accepted
  constructor
  · intro isAccepted
    obtain ⟨i, decoded⟩ := exists_decodeCommand_eq_ok_iff.mpr isAccepted
    exact ⟨i, decoded, encode_of_decodeCommand decoded s.cfg, step_cmd_ok decoded⟩
  · intro notAccepted
    cases answer : decodeCommand s.cfg.hasCorr w with
    | ok i => exact absurd (exists_decodeCommand_eq_ok_iff.mp ⟨i, answer⟩) notAccepted
    | error r => exact step_cmd_error answer

end Sys2Proof.Proofs
end

section
/-! The control word on the wire (30_encoding R86, R87): its four bytes, the fields four bytes hold, and its formula. -/

namespace Sys2Proof.Machine

/-- A concatenation, widened, is the upper part moved up beside the lower part. -/
theorem setWidth_append_eq_or {v w n : Nat} (hi : BitVec v) (lo : BitVec w) :
    (hi ++ lo).setWidth n = hi.setWidth n <<< w ||| lo.setWidth n := by
  apply BitVec.eq_of_getLsbD_eq
  intro i inside
  by_cases low : i < w
  · simp [BitVec.getLsbD_append, low, inside]
  · have beyond : lo.getLsbD i = false := BitVec.getLsbD_of_ge lo i (by omega)
    simp [BitVec.getLsbD_append, low, inside, beyond]

/-- Each byte is a slice of the tiled fields; a slice that meets a boundary takes a part from each side. -/
theorem be32_cwPack (cw : ControlWord) : be32 (cwPack cw) = cwBytes cw := by
  simp only [be32, cwPack, cwBytes, BitVec.extractLsb'_append_eq_ite]
  simp

/-- Each field is a slice of the four bytes, as in `be32_cwPack`. -/
theorem cwUnpack_u32 (b0 b1 b2 b3 : Byte) : cwUnpack (u32 b0 b1 b2 b3) = cwOfBytes b0 b1 b2 b3 := by
  simp only [cwUnpack, u32, cwOfBytes, BitVec.extractLsb'_append_eq_ite]
  simp

/-- The tiling of the fields as shifts: a field's shift is the sum of the widths below it. -/
theorem cwPack_eq_or_shiftLeft (cw : ControlWord) :
    cwPack cw = (cw.code.setWidth 32 <<< 29) ||| (cw.bf.setWidth 32 <<< 28) ||| (cw.rid.setWidth 32 <<< 18) |||
      (cw.token.setWidth 32 <<< 8) ||| cw.plen.setWidth 32 := by
  rw [← BitVec.setWidth_eq (cwPack cw)]
  simp only [cwPack, setWidth_append_eq_or, BitVec.shiftLeft_or_distrib, ← BitVec.shiftLeft_add]

end Sys2Proof.Machine

namespace Sys2Proof.Proofs

open Machine

/-- Settles O8: the bytes, the fields and the formula are one lemma each. -/
theorem controlWordBytesOnTheWire : Obligations.ControlWordBytesOnTheWire :=
  ⟨be32_cwPack, cwUnpack_u32, cwPack_eq_or_shiftLeft⟩

end Sys2Proof.Proofs
end

section
/-! Packing and unpacking the control word undo each other, on the word and on its four bytes (40_control_word R124,
R125). -/

namespace Sys2Proof.Machine

/-- A field's slice of the packed word lies in that field alone. -/
@[simp] theorem cwUnpack_cwPack (cw : ControlWord) : cwUnpack (cwPack cw) = cw := by
  simp only [cwUnpack, cwPack, BitVec.extractLsb'_append_eq_ite]
  simp

/-- Adjacent slices join to one slice, and the five together are the whole word. -/
@[simp] theorem cwPack_cwUnpack (w : Word32) : cwPack (cwUnpack w) = w := by
  simp (disch := rfl) only [cwPack, cwUnpack, BitVec.extractLsb'_append_extractLsb'_eq_extractLsb']
  exact BitVec.extractLsb'_eq_self

/-- Each byte is a slice of the joined bytes. -/
theorem be32_u32 (b0 b1 b2 b3 : Byte) : be32 (u32 b0 b1 b2 b3) = [b0, b1, b2, b3] := by
  simp only [be32, u32, BitVec.extractLsb'_append_eq_ite]
  simp

/-- The four bytes are adjacent slices, as in `cwPack_cwUnpack`. -/
theorem headWord_be32 (w : Word32) : headWord (be32 w) = w := by
  rw [be32, headWord_cons]
  simp (disch := rfl) only [u32, BitVec.extractLsb'_append_extractLsb'_eq_extractLsb']
  exact BitVec.extractLsb'_eq_self

theorem cwUnpack_headWord_cwBytes (cw : ControlWord) : cwUnpack (headWord (cwBytes cw)) = cw := by
  rw [← be32_cwPack, headWord_be32, cwUnpack_cwPack]

theorem cwBytes_cwOfBytes (b0 b1 b2 b3 : Byte) : cwBytes (cwOfBytes b0 b1 b2 b3) = [b0, b1, b2, b3] := by
  rw [← cwUnpack_u32, ← be32_cwPack, cwPack_cwUnpack, be32_u32]

end Sys2Proof.Machine

namespace Sys2Proof.Proofs

open Machine

/-- Settles O9: the two inverse laws; the slices are how `cwUnpack` is defined. -/
theorem controlWordPackUnpackInverse : Obligations.ControlWordPackUnpackInverse :=
  ⟨cwUnpack_cwPack, cwPack_cwUnpack, fun _ => rfl⟩

end Sys2Proof.Proofs
end

section
/-! The result flags (10_state R37): what a flag reads after a write. -/

namespace Sys2Proof.Machine

/-- Writing a flag is read back from it, and the other three read as before (10_state R37). -/
theorem flagOf_withFlag (flags : BitVec 4) (f g : Flag) (v : Bool) :
    flagOf (withFlag flags f v) g = if g = f then v else flagOf flags g := by
  have mask : (1#4 <<< flagBit f).getLsbD (flagBit g) = decide (g = f) := by
    cases f <;> cases g <;> decide
  have inside : flagBit g < 4 := by cases g <;> decide
  cases v with
  | true =>
    rw [flagOf, withFlag, if_pos rfl, BitVec.getLsbD_or, mask]
    by_cases same : g = f <;> simp [same, flagOf]
  | false =>
    rw [flagOf, withFlag, if_neg Bool.false_ne_true, BitVec.getLsbD_and, BitVec.getLsbD_not, mask]
    by_cases same : g = f <;> simp [same, inside, flagOf]

end Sys2Proof.Machine
end

section
/-! `ENC_CW` and `DEC_CW`: an equation per outcome (40_control_word R121, R122), and the round trips they make (R123). -/

namespace Sys2Proof.Machine

variable {s : State}

theorem exec_encCw_reserved (reserved : codeClass s.cfg s.fCode = .reserved) :
    exec .encCw s = .next { s with status := 0x72 } := if_pos reserved

theorem exec_encCw_packed (named : codeClass s.cfg s.fCode ≠ .reserved) :
    exec .encCw s = .next { s with mem := { s.mem with wire := cwBytes s.controlWord }, status := 0x00 } := by
  rw [← be32_cwPack]
  exact if_neg named

theorem exec_decCw_short (short : s.mem.wire.length < 4) : exec .decCw s = .next { s with status := 0x11 } :=
  if_pos short

/-- The passing outcome in terms of the control word found in the first four bytes; `exec_decCw_cons` names the bytes. -/
theorem exec_decCw_unpacked {cw : ControlWord} (enough : 4 ≤ s.mem.wire.length)
    (head : cwUnpack (headWord s.mem.wire) = cw) :
    exec .decCw s = .next (fieldsDelivered s cw (decide (codeClass s.cfg cw.code = .reserved))) := by
  subst head
  exact if_neg (Nat.not_lt.mpr enough)

@[simp] theorem fieldsDelivered_controlWord (cw : ControlWord) (rsvd : Bool) :
    (fieldsDelivered s cw rsvd).controlWord = cw := rfl

@[simp] theorem flagOf_fieldsDelivered_rsvd (cw : ControlWord) (rsvd : Bool) :
    flagOf (fieldsDelivered s cw rsvd).flags .rsvd = rsvd := by
  rw [fieldsDelivered, flagOf_withFlag, if_pos rfl]

theorem exec_decCw_cons {b0 b1 b2 b3 : Byte} {rest : List Byte} (wire : s.mem.wire = b0 :: b1 :: b2 :: b3 :: rest) :
    exec .decCw s = .next (fieldsDelivered s (cwOfBytes b0 b1 b2 b3)
      (decide (codeClass s.cfg (cwOfBytes b0 b1 b2 b3).code = .reserved))) := by
  refine exec_decCw_unpacked ?_ ?_
  · simp [wire]
  · rw [wire, headWord_cons, cwUnpack_u32]

end Sys2Proof.Machine

namespace Sys2Proof.Proofs

open Machine

/-- Settles O13: `ENC_CW` has two outcomes. -/
theorem encCwPacksTheFields : Obligations.EncCwPacksTheFields :=
  fun _ => ⟨exec_encCw_reserved, exec_encCw_packed⟩

/-- Settles O14: `DEC_CW` has two outcomes. -/
theorem decCwUnpacksTheFirstFourBytes : Obligations.DecCwUnpacksTheFirstFourBytes :=
  fun _ => ⟨exec_decCw_short, fun _ _ _ _ _ => exec_decCw_cons⟩

/-- Settles O15: each command's equation gives the state between and the state after; what is left says that the bytes and
the fields give each other back. -/
theorem controlWordCommandsRoundTrip : Obligations.ControlWordCommandsRoundTrip := by
  intro s
  refine ⟨?encodeDecode, ?decodeEncode⟩
  case encodeDecode =>
    intro named
    refine ⟨_, _, exec_encCw_packed named, exec_decCw_unpacked ?_ (cwUnpack_headWord_cwBytes s.controlWord),
      rfl, rfl, fieldsDelivered_controlWord _ _, ?_, rfl⟩
    · exact Nat.le_refl 4
    · rw [flagOf_fieldsDelivered_rsvd]
      exact decide_eq_false named
  case decodeEncode =>
    intro b0 b1 b2 b3 rest wire named
    exact ⟨_, _, exec_decCw_cons wire, exec_encCw_packed named, cwBytes_cwOfBytes b0 b1 b2 b3⟩

end Sys2Proof.Proofs
end

section
/-! `ENC_FRAME` and `DEC_FRAME`: an equation per outcome (41_frame R131, R132). -/

namespace Sys2Proof.Machine

variable {s : State}

theorem exec_encFrame_reserved (reserved : codeClass s.cfg s.fCode = .reserved) :
    exec .encFrame s = .next { s with status := 0x72 } := if_pos reserved

theorem exec_encFrame_short (named : codeClass s.cfg s.fCode ≠ .reserved) (short : s.mem.pay.length < s.fPlen.toNat) :
    exec .encFrame s = .next { s with status := 0x82 } := (if_neg named).trans (if_pos short)

theorem exec_encFrame_built (named : codeClass s.cfg s.fCode ≠ .reserved) (enough : s.fPlen.toNat ≤ s.mem.pay.length) :
    exec .encFrame s = .next { s with
      mem := { s.mem with wire := cwBytes s.controlWord ++ s.mem.pay.take s.fPlen.toNat }, status := 0x00 } := by
  rw [← be32_cwPack]
  exact (if_neg named).trans (if_neg (Nat.not_lt.mpr enough))

/-- Four bytes and more, as the length and the control word that the decoding equations ask for. -/
theorem controlWord_of_wire_cons {b0 b1 b2 b3 : Byte} {rest : List Byte}
    (wire : s.mem.wire = b0 :: b1 :: b2 :: b3 :: rest) :
    s.mem.wire.length = 4 + rest.length ∧ cwUnpack (headWord s.mem.wire) = cwOfBytes b0 b1 b2 b3 := by
  constructor
  · rw [wire, Nat.add_comm]
    rfl
  · rw [wire, headWord_cons, cwUnpack_u32]

theorem exec_decFrame_noControlWord (short : s.mem.wire.length < 4) :
    exec .decFrame s = .next { s with status := 0x11 } := if_pos short

section
variable {cw : ControlWord} (enough : 4 ≤ s.mem.wire.length) (head : cwUnpack (headWord s.mem.wire) = cw)
include enough head

theorem exec_decFrame_short (short : s.mem.wire.length < 4 + cw.plen.toNat) :
    exec .decFrame s = .next { s with status := 0x21 } := by
  subst head
  exact (if_neg (Nat.not_lt.mpr enough)).trans (if_pos short)

theorem exec_decFrame_delivered (fits : 4 + cw.plen.toNat ≤ s.mem.wire.length) :
    exec .decFrame s = .next { fieldsDelivered s cw (decide (codeClass s.cfg cw.code = .reserved)) with
      mem := { s.mem with pay := slice s.mem.wire 4 cw.plen.toNat } } := by
  subst head
  exact (if_neg (Nat.not_lt.mpr enough)).trans (if_neg (Nat.not_lt.mpr fits))

end

section
variable {b0 b1 b2 b3 : Byte} {rest : List Byte} (wire : s.mem.wire = b0 :: b1 :: b2 :: b3 :: rest)
include wire

theorem exec_decFrame_cons_short (short : rest.length < b3.toNat) :
    exec .decFrame s = .next { s with status := 0x21 } := by
  obtain ⟨length, head⟩ := controlWord_of_wire_cons wire
  refine exec_decFrame_short (by omega) head ?_
  rw [length]
  exact Nat.add_lt_add_left short 4

theorem exec_decFrame_cons (fits : b3.toNat ≤ rest.length) :
    exec .decFrame s = .next { fieldsDelivered s (cwOfBytes b0 b1 b2 b3)
        (decide (codeClass s.cfg (cwOfBytes b0 b1 b2 b3).code = .reserved)) with
      mem := { s.mem with pay := rest.take b3.toNat } } := by
  obtain ⟨length, head⟩ := controlWord_of_wire_cons wire
  rw [exec_decFrame_delivered (by omega) head, wire]
  · rfl
  · rw [length]
    exact Nat.add_le_add_left fits 4

end

/-- A `DEC_FRAME` that is done found the whole datagram in `WIRE`. -/
theorem exec_decFrame_done {t : State} (decoded : exec .decFrame s = .next t) (ok : t.status = 0x00) :
    ∃ b0 b1 b2 b3 rest, s.mem.wire = b0 :: b1 :: b2 :: b3 :: rest ∧ b3.toNat ≤ rest.length ∧
      t = { fieldsDelivered s (cwOfBytes b0 b1 b2 b3)
          (decide (codeClass s.cfg (cwOfBytes b0 b1 b2 b3).code = .reserved)) with
        mem := { s.mem with pay := rest.take b3.toNat } } := by
  rcases Nat.lt_or_ge s.mem.wire.length 4 with short | enough
  · cases decoded.symm.trans (exec_decFrame_noControlWord short)
    nomatch ok
  obtain ⟨b0, b1, b2, b3, rest, wire⟩ := exists_four_bytes _ enough
  rcases Nat.lt_or_ge rest.length b3.toNat with short | fits
  · cases decoded.symm.trans (exec_decFrame_cons_short wire short)
    nomatch ok
  · cases decoded.symm.trans (exec_decFrame_cons wire fits)
    exact ⟨b0, b1, b2, b3, rest, wire, fits, rfl⟩

end Sys2Proof.Machine

namespace Sys2Proof.Proofs

open Machine

/-- Settles O16: `ENC_FRAME` has three outcomes. -/
theorem encFrameBuildsTheDatagram : Obligations.EncFrameBuildsTheDatagram :=
  fun _ => ⟨exec_encFrame_reserved, exec_encFrame_short, exec_encFrame_built⟩

/-- Settles O17: `DEC_FRAME` has three outcomes. -/
theorem decFrameTakesTheDatagramApart : Obligations.DecFrameTakesTheDatagramApart :=
  fun _ => ⟨exec_decFrame_noControlWord,
    fun _ _ _ _ _ wire => ⟨exec_decFrame_cons_short wire, exec_decFrame_cons wire⟩⟩

end Sys2Proof.Proofs
end

section
/-! The receive front end and `DEC_AUTO`: an equation per outcome (41_frame R133, R134). -/

namespace Sys2Proof.Machine

section
variable {cls : CodeClass} {cw : ControlWord} {s : State}

theorem receiveFrame_rstLen (isRst : cls = .rst) (wrong : cw.plen ≠ 1) :
    receiveFrame cls cw s = .next { s with status := 0x51 } := if_pos ⟨isRst, wrong⟩

section
variable (rstLen : cls = .rst → cw.plen = 1)
include rstLen

theorem receiveFrame_bhNofit (block : cw.bf = 1) (nofit : cw.plen.toNat < 6) :
    receiveFrame cls cw s = .next { s with status := 0x31 } := by
  rw [receiveFrame, if_neg fun ⟨isRst, wrong⟩ => wrong (rstLen isRst), if_pos ⟨block, nofit⟩]
  rfl

variable (room : cw.bf = 1 → 6 ≤ cw.plen.toNat)
include room

theorem receiveFrame_shortFrame (short : s.mem.wire.length < 4 + cw.plen.toNat) :
    receiveFrame cls cw s = .next { s with status := 0x21 } := by
  rw [receiveFrame, if_neg fun ⟨isRst, wrong⟩ => wrong (rstLen isRst),
    if_neg fun ⟨block, nofit⟩ => Nat.not_lt.mpr (room block) nofit, if_pos short]
  rfl

/-- Past the three tests only the form of the frame decides. -/
theorem receiveFrame_accepted (fits : 4 + cw.plen.toNat ≤ s.mem.wire.length) : receiveFrame cls cw s =
    if cw.bf = 1 then
      done ((s.deliver cw (slice s.mem.wire 10 (cw.plen.toNat - 6)) .blockRx).setBlockHeader
        (bhUnpack (slice s.mem.wire 4 6)))
    else if cls = .rst then
      done ((s.deliver cw (slice s.mem.wire 4 cw.plen.toNat) (routeOf cls)).setResetByte (byteAt s.mem.wire 4))
    else done (s.deliver cw (slice s.mem.wire 4 cw.plen.toNat) (routeOf cls)) := by
  rw [receiveFrame, if_neg fun ⟨isRst, wrong⟩ => wrong (rstLen isRst),
    if_neg fun ⟨block, nofit⟩ => Nat.not_lt.mpr (room block) nofit, if_neg (Nat.not_lt.mpr fits)]

end

theorem bf_ne_one_of_eq_zero (plain : cw.bf = 0) : cw.bf ≠ 1 := by
  rw [plain]
  decide

/-! ### The accepted frames, on a datagram whose bytes after the control word are `rest` -/

section
variable {b0 b1 b2 b3 : Byte} {rest : List Byte} (wire : s.mem.wire = b0 :: b1 :: b2 :: b3 :: rest)
include wire

theorem receiveFrame_cons_block {h0 h1 h2 h3 h4 h5 : Byte} {frag : List Byte} (notRst : cls ≠ .rst)
    (block : cw.bf = 1) (room : 6 ≤ cw.plen.toNat) (fits : cw.plen.toNat ≤ rest.length)
    (header : rest = h0 :: h1 :: h2 :: h3 :: h4 :: h5 :: frag) :
    receiveFrame cls cw s = .next { fieldsDelivered s cw false with
      fCrc := h0 ++ h1, fTotal := h2 ++ h3, fOffset := h4 ++ h5,
      mem := { s.mem with pay := frag.take (cw.plen.toNat - 6) }, rRoute := 5 } := by
  subst header
  rw [receiveFrame_accepted (absurd · notRst) (fun _ => room)
    ((controlWord_of_wire_cons wire).1 ▸ Nat.add_le_add_left fits 4), if_pos block, wire]
  rfl

theorem receiveFrame_cons_plain (notRst : cls ≠ .rst) (plain : cw.bf = 0) (fits : cw.plen.toNat ≤ rest.length) :
    receiveFrame cls cw s = .next { fieldsDelivered s cw false with
      mem := { s.mem with pay := rest.take cw.plen.toNat }, rRoute := routeBits (routeOf cls) } := by
  rw [receiveFrame_accepted (absurd · notRst) (absurd · (bf_ne_one_of_eq_zero plain))
    ((controlWord_of_wire_cons wire).1 ▸ Nat.add_le_add_left fits 4), if_neg (bf_ne_one_of_eq_zero plain),
    if_neg notRst, wire]
  rfl

theorem receiveFrame_cons_rst {b : Byte} {more : List Byte} (isRst : cls = .rst) (one : cw.plen = 1)
    (plain : cw.bf = 0) (payload : rest = b :: more) :
    receiveFrame cls cw s = .next { fieldsDelivered s cw false with
      mem := { s.mem with pay := [b] }, rRoute := 4, rErr := b.extractLsb' 0 7,
      flags := withFlag (withFlag s.flags .rsvd false) .errp (b.getLsbD 7) } := by
  subst isRst payload
  have fits : 4 + cw.plen.toNat ≤ s.mem.wire.length := by simp [wire, one]
  rw [receiveFrame_accepted (fun _ => one) (absurd · (bf_ne_one_of_eq_zero plain)) fits,
    if_neg (bf_ne_one_of_eq_zero plain), if_pos rfl, wire, one]
  rfl

/-- Whatever runs the front end behaves as `runsAsFrontEnd` says; `DEC_AUTO` and the five control words do. -/
theorem runsAsFrontEnd_of_exec_eq {i : Instr} (runs : exec i s = receiveFrame cls cw s) :
    runsAsFrontEnd i cls cw rest s := by
  rw [runsAsFrontEnd, runs]
  refine ⟨receiveFrame_rstLen, receiveFrame_bhNofit, ?short, fun _ _ _ _ _ _ _ => receiveFrame_cons_block wire,
    ?request, ?ack, ?back, fun _ _ => receiveFrame_cons_rst wire⟩
  case short =>
    exact fun rstLen room short => receiveFrame_shortFrame rstLen room
      ((controlWord_of_wire_cons wire).1 ▸ Nat.add_lt_add_left short 4)
  case request =>
    rintro (rfl | rfl) <;> exact receiveFrame_cons_plain wire nofun
  case ack =>
    rintro rfl
    exact receiveFrame_cons_plain wire nofun
  case back =>
    rintro rfl
    exact receiveFrame_cons_plain wire nofun

end

/-- When the front end rejects a frame, it is an RST of the wrong length, or the datagram is not the one its block flag
promises. -/
theorem receiveFrame_failed {t : State} (answer : receiveFrame cls cw s = .next t) (failed : t.status ≠ 0x00) :
    (cls = .rst ∧ cw.plen ≠ 1) ∨ (cw.bf = 1 ∧ cw.plen.toNat < 6) ∨ s.mem.wire.length < 4 + cw.plen.toNat := by
  rcases receiveFrame_cases answer with ⟨isRst, wrong, -⟩ | ⟨-, block, nofit, -⟩ | ⟨-, -, short, -⟩ | accepted
  · exact .inl ⟨isRst, wrong⟩
  · exact .inr (.inl ⟨block, nofit⟩)
  · exact .inr (.inr short)
  · rcases accepted with ⟨-, -, -, -, rfl⟩ | ⟨-, -, -, -, rfl⟩ | ⟨-, -, -, rfl⟩ <;> exact absurd rfl failed

/-- What every frame the front end accepts has in common, and what its block flag decides. -/
theorem receiveFrame_done {t : State} (answer : receiveFrame cls cw s = .next t) (ok : t.status = 0x00) :
    4 + cw.plen.toNat ≤ s.mem.wire.length ∧ t.controlWord = cw ∧ flagOf t.flags .rsvd = false ∧
    ((cw.bf = 1 ∧ 6 ≤ cw.plen.toNat ∧ t.blockHeader = bhUnpack (slice s.mem.wire 4 6) ∧
        t.mem.pay = slice s.mem.wire 10 (cw.plen.toNat - 6)) ∨
      (cw.bf = 0 ∧ t.blockHeader = s.blockHeader ∧ t.mem.pay = slice s.mem.wire 4 cw.plen.toNat)) := by
  rcases receiveFrame_cases answer with ⟨-, -, rfl⟩ | ⟨-, -, -, rfl⟩ | ⟨-, -, -, rfl⟩ |
    ⟨-, block, room, fits, rfl⟩ | ⟨-, -, notBlock, fits, rfl⟩ | ⟨-, notBlock, fits, rfl⟩
  · nomatch ok
  · nomatch ok
  · nomatch ok
  · exact ⟨fits, rfl, flagOf_withFlag _ _ _ _, .inl ⟨block, room, rfl, rfl⟩⟩
  · have rsvd : flagOf (withFlag (withFlag s.flags .rsvd false) .errp (resetMarker (byteAt s.mem.wire 4))) .rsvd =
        false := by simp [flagOf_withFlag]
    exact ⟨fits, rfl, rsvd, .inr ⟨(BitVec.eq_zero_or_eq_one _).resolve_right notBlock, rfl, rfl⟩⟩
  · exact ⟨fits, rfl, flagOf_withFlag _ _ _ _,
      .inr ⟨(BitVec.eq_zero_or_eq_one _).resolve_right notBlock, rfl, rfl⟩⟩

end

variable {s : State}

theorem exec_decAuto_noControlWord (short : s.mem.wire.length < 4) :
    exec .decAuto s = .next { s with status := 0x11 } := if_pos short

section
variable {cw : ControlWord} (enough : 4 ≤ s.mem.wire.length) (head : cwUnpack (headWord s.mem.wire) = cw)
include enough head

theorem exec_decAuto_reserved (reserved : codeClass s.cfg cw.code = .reserved) :
    exec .decAuto s = .next { s with status := 0x71 } := by
  subst head
  exact (if_neg (Nat.not_lt.mpr enough)).trans (if_pos reserved)

theorem exec_decAuto_named (named : codeClass s.cfg cw.code ≠ .reserved) :
    exec .decAuto s = receiveFrame (codeClass s.cfg cw.code) cw s := by
  subst head
  exact (if_neg (Nat.not_lt.mpr enough)).trans (if_neg named)

end

/-- A `DEC_AUTO` that is done found a control word with a frame code, and the front end accepted the frame. -/
theorem exec_decAuto_done {t : State} (decoded : exec .decAuto s = .next t) (ok : t.status = 0x00) :
    4 ≤ s.mem.wire.length ∧ codeClass s.cfg (cwUnpack (headWord s.mem.wire)).code ≠ .reserved ∧
      receiveFrame (codeClass s.cfg (cwUnpack (headWord s.mem.wire)).code) (cwUnpack (headWord s.mem.wire)) s =
        .next t := by
  rcases Nat.lt_or_ge s.mem.wire.length 4 with short | enough
  · cases decoded.symm.trans (exec_decAuto_noControlWord short)
    nomatch ok
  by_cases reserved : codeClass s.cfg (cwUnpack (headWord s.mem.wire)).code = .reserved
  · cases decoded.symm.trans (exec_decAuto_reserved enough rfl reserved)
    nomatch ok
  · exact ⟨enough, reserved, exec_decAuto_named enough rfl reserved ▸ decoded⟩

end Sys2Proof.Machine

namespace Sys2Proof.Proofs

open Machine

/-- Settles O18: without a control word or with a reserved code `DEC_AUTO` stops at once; with a frame code it is the front
end, whose clauses are `runsAsFrontEnd_of_exec_eq`. -/
theorem decAutoReceivesAndRoutes : Obligations.DecAutoReceivesAndRoutes := by
  intro s
  refine ⟨exec_decAuto_noControlWord, fun b0 b1 b2 b3 rest wire => ?_⟩
  obtain ⟨length, head⟩ := controlWord_of_wire_cons wire
  have enough : 4 ≤ s.mem.wire.length := by omega
  refine ⟨exec_decAuto_reserved enough head, ?_⟩
  rintro _ named rfl
  exact runsAsFrontEnd_of_exec_eq wire (exec_decAuto_named enough head named)

end Sys2Proof.Proofs
end

section
/-! `DEC_BFRAME`: an equation per outcome (42_block R146). -/

namespace Sys2Proof.Machine

variable {s : State}

theorem exec_decBframe_noControlWord (short : s.mem.wire.length < 4) :
    exec .decBframe s = .next { s with status := 0x11 } := if_pos short

section
variable {cw : ControlWord} (enough : 4 ≤ s.mem.wire.length) (head : cwUnpack (headWord s.mem.wire) = cw)
include enough head

theorem exec_decBframe_noHeader (nofit : cw.plen.toNat < 6) : exec .decBframe s = .next { s with status := 0x31 } := by
  subst head
  exact (if_neg (Nat.not_lt.mpr enough)).trans (if_pos nofit)

theorem exec_decBframe_short (room : 6 ≤ cw.plen.toNat) (short : s.mem.wire.length < 4 + cw.plen.toNat) :
    exec .decBframe s = .next { s with status := 0x21 } := by
  subst head
  exact (if_neg (Nat.not_lt.mpr enough)).trans ((if_neg (Nat.not_lt.mpr room)).trans (if_pos short))

theorem exec_decBframe_delivered (room : 6 ≤ cw.plen.toNat) (fits : 4 + cw.plen.toNat ≤ s.mem.wire.length) :
    exec .decBframe s = .next (State.setBlockHeader
      { fieldsDelivered s cw (decide (codeClass s.cfg cw.code = .reserved)) with
        mem := { s.mem with pay := slice s.mem.wire 10 (cw.plen.toNat - 6) } }
      (bhUnpack (slice s.mem.wire 4 6))) := by
  subst head
  exact (if_neg (Nat.not_lt.mpr enough)).trans
    ((if_neg (Nat.not_lt.mpr room)).trans (if_neg (Nat.not_lt.mpr fits)))

end

end Sys2Proof.Machine
end

section
/-! The laws of the frame family (41_frame R135): the two round trips, and `DEC_AUTO` beside the decode that its block
flag selects. -/

namespace Sys2Proof.Machine

variable {s : State}

/-! ### The raw decode a block flag selects -/

/-- The raw decode for a frame with the block flag `bf` (41_frame R135 (c), (d)). -/
def rawDecode (bf : BitVec 1) : Instr := if bf = 0 then .decFrame else .decBframe

theorem rawDecode_eq_decFrame {bf : BitVec 1} (plain : bf = 0) : rawDecode bf = .decFrame := if_pos plain

theorem rawDecode_eq_decBframe {bf : BitVec 1} (block : bf = 1) : rawDecode bf = .decBframe := by
  subst block
  rfl

section
variable {cw : ControlWord} (enough : 4 ≤ s.mem.wire.length) (head : cwUnpack (headWord s.mem.wire) = cw)
include enough head

theorem exec_rawDecode_fails
    (broken : (cw.bf = 1 ∧ cw.plen.toNat < 6) ∨ s.mem.wire.length < 4 + cw.plen.toNat) :
    ∃ u, exec (rawDecode cw.bf) s = .next u ∧ u.status ≠ 0x00 := by
  rcases BitVec.eq_zero_or_eq_one cw.bf with plain | block
  · rw [rawDecode_eq_decFrame plain]
    have short : s.mem.wire.length < 4 + cw.plen.toNat :=
      broken.resolve_left fun isBlock => bf_ne_one_of_eq_zero plain isBlock.1
    exact ⟨_, exec_decFrame_short enough head short, nofun⟩
  · rw [rawDecode_eq_decBframe block]
    rcases Nat.lt_or_ge cw.plen.toNat 6 with nofit | room
    · exact ⟨_, exec_decBframe_noHeader enough head nofit, nofun⟩
    · have short : s.mem.wire.length < 4 + cw.plen.toNat :=
        broken.resolve_left fun isBlock => Nat.not_lt.mpr room isBlock.2
      exact ⟨_, exec_decBframe_short enough head room short, nofun⟩

/-- A frame the front end accepts, with a frame code, is decoded alike by the raw decode its block flag selects. -/
theorem exec_rawDecode_agrees {cls : CodeClass} {t : State} (named : codeClass s.cfg cw.code ≠ .reserved)
    (answer : receiveFrame cls cw s = .next t) (ok : t.status = 0x00) :
    ∃ u, exec (rawDecode cw.bf) s = .next u ∧ u.status = 0x00 ∧ u.controlWord = cw ∧
      u.blockHeader = t.blockHeader ∧ u.mem.pay = t.mem.pay ∧ flagOf u.flags .rsvd = flagOf t.flags .rsvd := by
  obtain ⟨fits, -, rsvd, form⟩ := receiveFrame_done answer ok
  have notReserved : flagOf (fieldsDelivered s cw (decide (codeClass s.cfg cw.code = .reserved))).flags .rsvd =
      flagOf t.flags .rsvd := by
    rw [flagOf_fieldsDelivered_rsvd, rsvd, decide_eq_false named]
  rcases form with ⟨block, room, header, payload⟩ | ⟨plain, header, payload⟩
  · rw [rawDecode_eq_decBframe block, header, payload]
    exact ⟨_, exec_decBframe_delivered enough head room fits, rfl, rfl, rfl, rfl, notReserved⟩
  · rw [rawDecode_eq_decFrame plain, header, payload]
    exact ⟨_, exec_decFrame_delivered enough head fits, rfl, rfl, rfl, rfl, notReserved⟩

end

/-! ### The four laws -/

/-- 41_frame R135 (a): the datagram's head unpacks to the fields it was packed from, and the payload follows it. -/
theorem decFrame_after_encFrame (named : codeClass s.cfg s.fCode ≠ .reserved)
    (enough : s.fPlen.toNat ≤ s.mem.pay.length) :
    ∃ t u, exec .encFrame s = .next t ∧ exec .decFrame t = .next u ∧ t.status = 0x00 ∧ u.status = 0x00 ∧
      u.controlWord = s.controlWord ∧ u.blockHeader = s.blockHeader ∧ u.mem.pay = s.mem.pay.take s.fPlen.toNat := by
  have length : (cwBytes s.controlWord ++ s.mem.pay.take s.fPlen.toNat).length = 4 + s.fPlen.toNat := by
    rw [List.length_append, List.length_take_of_le enough]
    rfl
  refine ⟨_, _, exec_encFrame_built named enough,
    exec_decFrame_delivered ?_ (cwUnpack_headWord_cwBytes s.controlWord) ?_, rfl, rfl, rfl, rfl, ?_⟩
  · exact length ▸ Nat.le_add_right 4 _
  · exact length.ge
  · exact List.take_take.trans (congrArg (s.mem.pay.take ·) (Nat.min_self _))

/-- 41_frame R135 (b): the fields pack to the four bytes they were taken from. -/
theorem encFrame_after_decFrame {t : State} (decoded : exec .decFrame s = .next t) (ok : t.status = 0x00)
    (named : codeClass s.cfg t.fCode ≠ .reserved) :
    ∃ u, exec .encFrame t = .next u ∧ u.mem.wire = s.mem.wire.take (4 + t.fPlen.toNat) := by
  obtain ⟨b0, b1, b2, b3, rest, wire, fits, rfl⟩ := exec_decFrame_done decoded ok
  refine ⟨_, exec_encFrame_built named (List.length_take_of_le fits).ge, ?_⟩
  calc cwBytes (cwOfBytes b0 b1 b2 b3) ++ (rest.take b3.toNat).take b3.toNat
      = [b0, b1, b2, b3] ++ rest.take b3.toNat := by rw [cwBytes_cwOfBytes, List.take_take, Nat.min_self]
    _ = s.mem.wire.take (4 + b3.toNat) := by rw [wire, Nat.add_comm]; rfl

/-- 41_frame R135 (c). -/
theorem rawDecode_of_decAuto_done {t : State} (decoded : exec .decAuto s = .next t) (ok : t.status = 0x00) :
    ∃ u, exec (rawDecode t.fBf) s = .next u ∧ u.status = 0x00 ∧ u.controlWord = t.controlWord ∧
      u.blockHeader = t.blockHeader ∧ u.mem.pay = t.mem.pay ∧ flagOf u.flags .rsvd = flagOf t.flags .rsvd := by
  obtain ⟨enough, named, answer⟩ := exec_decAuto_done decoded ok
  obtain ⟨-, fields, -, -⟩ := receiveFrame_done answer ok
  have flag : t.fBf = (cwUnpack (headWord s.mem.wire)).bf := congrArg ControlWord.bf fields
  rw [flag, fields]
  exact exec_rawDecode_agrees enough rfl named answer ok

/-- 41_frame R135 (d), once there is a control word. -/
theorem rawDecode_of_decAuto_failed {cw : ControlWord} {t : State} (enough : 4 ≤ s.mem.wire.length)
    (head : cwUnpack (headWord s.mem.wire) = cw) (decoded : exec .decAuto s = .next t) (failed : t.status ≠ 0x00) :
    codeClass s.cfg cw.code = .reserved ∨ (codeClass s.cfg cw.code = .rst ∧ cw.plen ≠ 1) ∨
      ∃ u, exec (rawDecode cw.bf) s = .next u ∧ u.status ≠ 0x00 := by
  by_cases named : codeClass s.cfg cw.code = .reserved
  · exact .inl named
  rw [exec_decAuto_named enough head named] at decoded
  exact .inr ((receiveFrame_failed decoded failed).imp_right (exec_rawDecode_fails enough head))

end Sys2Proof.Machine

namespace Sys2Proof.Proofs

open Machine

/-- Settles O20: a lemma per law; (d) adds the datagram without a control word, on which both decodes report `SHORT_CW`. -/
theorem frameFamilyLaws : Obligations.FrameFamilyLaws := by
  intro s
  refine ⟨decFrame_after_encFrame, fun _ => encFrame_after_decFrame, fun _ => rawDecode_of_decAuto_done,
    fun t decoded failed => ?_⟩
  rcases Nat.lt_or_ge s.mem.wire.length 4 with short | enough
  · exact .inl ⟨short, exec_decFrame_noControlWord short, exec_decBframe_noControlWord short⟩
  · obtain ⟨b0, b1, b2, b3, rest, wire⟩ := exists_four_bytes _ enough
    exact .inr ⟨b0, b1, b2, b3, rest, wire,
      rawDecode_of_decAuto_failed enough (controlWord_of_wire_cons wire).2 decoded failed⟩

end Sys2Proof.Proofs
end

section
/-! The block header on the wire (30_encoding R89; 42_block R141): packing and unpacking undo each other, alone and in front
of a fragment. -/

namespace Sys2Proof.Machine

/-- The two bytes of a 16-bit value are adjacent slices of it. -/
@[simp] theorem u16_extractLsb' (v : Word16) : u16 (v.extractLsb' 8 8) (v.extractLsb' 0 8) = v := by
  simp (disch := rfl) only [u16, BitVec.extractLsb'_append_extractLsb'_eq_extractLsb']
  exact BitVec.extractLsb'_eq_self

/-- Each byte is a slice of the two joined bytes. -/
@[simp] theorem be16_u16 (b0 b1 : Byte) : be16 (u16 b0 b1) = [b0, b1] := by
  simp only [be16, u16, BitVec.extractLsb'_append_eq_ite]
  simp

theorem bhPack_eq_bhBytes (h : BlockHeader) : bhPack h = bhBytes h := rfl

theorem bhUnpack_cons (h0 h1 h2 h3 h4 h5 : Byte) (rest : List Byte) :
    bhUnpack (h0 :: h1 :: h2 :: h3 :: h4 :: h5 :: rest) = ⟨u16 h0 h1, u16 h2 h3, u16 h4 h5⟩ := rfl

@[simp] theorem bhUnpack_bhBytes (h : BlockHeader) : bhUnpack (bhBytes h) = h := by
  simp only [bhBytes, bhUnpack_cons, u16_extractLsb']

/-- Of a longer sequence the header is its first six bytes. -/
theorem bhPack_bhUnpack {p : List Byte} (six : 6 ≤ p.length) : bhPack (bhUnpack p) = p.take 6 := by
  obtain ⟨h0, h1, h2, h3, h4, h5, rest, rfl⟩ := exists_six_bytes p six
  simp only [bhUnpack_cons, bhPack, be16_u16]
  rfl

/-- `bh_unpack` reads the first six bytes only. -/
theorem bhUnpack_take {n : Nat} (p : List Byte) (six : 6 ≤ n) : bhUnpack (p.take n) = bhUnpack p := by
  have read : ∀ i < 6, byteAt (p.take n) i = byteAt p i := fun i inside => by
    simp [byteAt, Nat.lt_of_lt_of_le inside six]
  simp [bhUnpack, read]

/-- Header and fragment, packed again, are the payload they were read from. -/
theorem bhPack_bhUnpack_append_take {p : List Byte} {n : Nat} (six : 6 ≤ p.length) (room : 6 ≤ n) :
    bhPack (bhUnpack p) ++ (p.drop 6).take (n - 6) = p.take n := by
  rw [bhPack_bhUnpack six, ← List.take_add, Nat.add_sub_cancel' room]

end Sys2Proof.Machine

namespace Sys2Proof.Proofs

open Machine

/-- Settles O10: six bytes are their own first six, so `bhPack_bhUnpack` gives the second inverse law. -/
theorem blockHeaderPackUnpackInverse : Obligations.BlockHeaderPackUnpackInverse :=
  ⟨bhPack_eq_bhBytes, bhUnpack_bhBytes, fun _ _ _ _ _ _ => ⟨rfl, bhPack_bhUnpack (Nat.le_refl 6)⟩⟩

end Sys2Proof.Proofs
end

section
/-! `ENC_BH` and `DEC_BH`: an equation per outcome (42_block R142, R143), and the round trip they make (R148 (a)). -/

namespace Sys2Proof.Machine

variable {s : State}

theorem exec_encBh (s : State) :
    exec .encBh s = .next { s with mem := { s.mem with wire := bhBytes s.blockHeader }, status := 0x00 } := rfl

theorem exec_decBh_short (short : s.mem.wire.length < 6) : exec .decBh s = .next { s with status := 0x41 } :=
  if_pos short

theorem exec_decBh_unpacked (enough : 6 ≤ s.mem.wire.length) :
    exec .decBh s = .next ({ s with status := 0x00 }.setBlockHeader (bhUnpack s.mem.wire)) := by
  rw [← bhUnpack_take s.mem.wire (Nat.le_refl 6)]
  exact if_neg (Nat.not_lt.mpr enough)

theorem exec_decBh_cons {h0 h1 h2 h3 h4 h5 : Byte} {rest : List Byte}
    (wire : s.mem.wire = h0 :: h1 :: h2 :: h3 :: h4 :: h5 :: rest) :
    exec .decBh s = .next { s with fCrc := h0 ++ h1, fTotal := h2 ++ h3, fOffset := h4 ++ h5, status := 0x00 } := by
  rw [exec_decBh_unpacked (by simp [wire]), wire]
  rfl

/-- 42_block R148 (a). -/
theorem decBh_after_encBh (s : State) :
    ∃ t u, exec .encBh s = .next t ∧ exec .decBh t = .next u ∧ t.status = 0x00 ∧ u.status = 0x00 ∧
      u.blockHeader = s.blockHeader :=
  ⟨_, _, exec_encBh s, exec_decBh_unpacked (Nat.le_refl 6), rfl, rfl, bhUnpack_bhBytes s.blockHeader⟩

end Sys2Proof.Machine

namespace Sys2Proof.Proofs

open Machine

/-- Settles O21: `ENC_BH` has one outcome. -/
theorem encBhPutsTheHeader : Obligations.EncBhPutsTheHeader := exec_encBh

/-- Settles O22: `DEC_BH` has two outcomes. -/
theorem decBhReadsTheHeader : Obligations.DecBhReadsTheHeader :=
  fun _ => ⟨exec_decBh_short, fun _ _ _ _ _ _ _ => exec_decBh_cons⟩

end Sys2Proof.Proofs
end

section
/-! `ENC_BFRAME` and `DEC_BFRAME`: an equation per outcome (42_block R145, R146). -/

namespace Sys2Proof.Machine

variable {s : State}

theorem exec_encBframe_reserved (reserved : codeClass s.cfg s.fCode = .reserved) :
    exec .encBframe s = .next { s with status := 0x72 } := if_pos reserved

section
variable (named : codeClass s.cfg s.fCode ≠ .reserved)
include named

theorem exec_encBframe_bfClear (plain : s.fBf = 0) : exec .encBframe s = .next { s with status := 0x92 } := by
  have notBlock : s.fBf ≠ 1 := by
    rw [plain]
    decide
  exact (if_neg named).trans (if_pos notBlock)

variable (block : s.fBf = 1)
include block

theorem exec_encBframe_noHeader (nofit : s.fPlen.toNat < 6) : exec .encBframe s = .next { s with status := 0x32 } :=
  (if_neg named).trans ((if_neg (not_not_intro block)).trans (if_pos nofit))

variable (room : 6 ≤ s.fPlen.toNat)
include room

theorem exec_encBframe_short (short : s.mem.pay.length < s.fPlen.toNat - 6) :
    exec .encBframe s = .next { s with status := 0x82 } :=
  (if_neg named).trans ((if_neg (not_not_intro block)).trans ((if_neg (Nat.not_lt.mpr room)).trans (if_pos short)))

theorem exec_encBframe_built (enough : s.fPlen.toNat - 6 ≤ s.mem.pay.length) :
    exec .encBframe s = .next { s with
      mem := { s.mem with
        wire := cwBytes s.controlWord ++ bhBytes s.blockHeader ++ s.mem.pay.take (s.fPlen.toNat - 6) },
      status := 0x00 } := by
  rw [← be32_cwPack]
  exact (if_neg named).trans ((if_neg (not_not_intro block)).trans
    ((if_neg (Nat.not_lt.mpr room)).trans (if_neg (Nat.not_lt.mpr enough))))

end

/-- An `ENC_BFRAME` that is done met none of its four refusals. -/
theorem exec_encBframe_done {t : State} (encoded : exec .encBframe s = .next t) (ok : t.status = 0x00) :
    codeClass s.cfg s.fCode ≠ .reserved ∧ s.fBf = 1 ∧ 6 ≤ s.fPlen.toNat ∧ s.fPlen.toNat - 6 ≤ s.mem.pay.length := by
  by_cases named : codeClass s.cfg s.fCode = .reserved
  · cases encoded.symm.trans (exec_encBframe_reserved named)
    nomatch ok
  rcases BitVec.eq_zero_or_eq_one s.fBf with plain | block
  · cases encoded.symm.trans (exec_encBframe_bfClear named plain)
    nomatch ok
  rcases Nat.lt_or_ge s.fPlen.toNat 6 with nofit | room
  · cases encoded.symm.trans (exec_encBframe_noHeader named block nofit)
    nomatch ok
  rcases Nat.lt_or_ge s.mem.pay.length (s.fPlen.toNat - 6) with short | enough
  · cases encoded.symm.trans (exec_encBframe_short named block room short)
    nomatch ok
  · exact ⟨named, block, room, enough⟩

section
variable {b0 b1 b2 b3 : Byte} {rest : List Byte} (wire : s.mem.wire = b0 :: b1 :: b2 :: b3 :: rest)
include wire

theorem exec_decBframe_cons_noHeader (nofit : b3.toNat < 6) : exec .decBframe s = .next { s with status := 0x31 } := by
  obtain ⟨length, head⟩ := controlWord_of_wire_cons wire
  exact exec_decBframe_noHeader (by omega) head nofit

variable (room : 6 ≤ b3.toNat)
include room

theorem exec_decBframe_cons_short (short : rest.length < b3.toNat) :
    exec .decBframe s = .next { s with status := 0x21 } := by
  obtain ⟨length, head⟩ := controlWord_of_wire_cons wire
  exact exec_decBframe_short (by omega) head room (length ▸ Nat.add_lt_add_left short 4)

theorem exec_decBframe_cons {h0 h1 h2 h3 h4 h5 : Byte} {frag : List Byte} (fits : b3.toNat ≤ rest.length)
    (header : rest = h0 :: h1 :: h2 :: h3 :: h4 :: h5 :: frag) :
    exec .decBframe s = .next { fieldsDelivered s (cwOfBytes b0 b1 b2 b3)
        (decide (codeClass s.cfg (cwOfBytes b0 b1 b2 b3).code = .reserved)) with
      fCrc := h0 ++ h1, fTotal := h2 ++ h3, fOffset := h4 ++ h5,
      mem := { s.mem with pay := frag.take (b3.toNat - 6) } } := by
  obtain ⟨length, head⟩ := controlWord_of_wire_cons wire
  subst header
  rw [exec_decBframe_delivered (by omega) head room (length ▸ Nat.add_le_add_left fits 4), wire]
  rfl

end

end Sys2Proof.Machine

namespace Sys2Proof.Proofs

open Machine

/-- Settles O23: `ENC_BFRAME` has five outcomes. -/
theorem encBframeBuildsTheDatagram : Obligations.EncBframeBuildsTheDatagram :=
  fun _ => ⟨exec_encBframe_reserved, exec_encBframe_bfClear, exec_encBframe_noHeader, exec_encBframe_short,
    exec_encBframe_built⟩

/-- Settles O24: `DEC_BFRAME` has four outcomes. -/
theorem decBframeTakesTheDatagramApart : Obligations.DecBframeTakesTheDatagramApart :=
  fun _ => ⟨exec_decBframe_noControlWord, fun _ _ _ _ _ wire => ⟨exec_decBframe_cons_noHeader wire,
    exec_decBframe_cons_short wire, fun _ _ _ _ _ _ _ room => exec_decBframe_cons wire room⟩⟩

end Sys2Proof.Proofs
end

section
/-! A block frame is a frame whose payload is the block header and the fragment (42_block R144): what `ENC_BFRAME` and
`DEC_BFRAME` do in terms of `ENC_FRAME` and `DEC_FRAME`. -/

namespace Sys2Proof.Machine

variable {s : State}

/-- The state with the packed header put in front of the fragment in `PAY`: what `ENC_FRAME` sends as `ENC_BFRAME` does. -/
def State.spliceHeader (s : State) : State :=
  { s with mem := { s.mem with pay := bhPack s.blockHeader ++ s.mem.pay.take (s.fPlen.toNat - 6) } }

/-- The state with the first six bytes of `PAY` moved to the header registers: what `DEC_BFRAME` makes of a frame that
`DEC_FRAME` delivers. -/
def State.splitHeader (s : State) : State :=
  { s with mem := { s.mem with pay := s.mem.pay.drop 6 } }.setBlockHeader (bhUnpack s.mem.pay)

theorem State.spliceHeader_pay_length (room : 6 ≤ s.fPlen.toNat) (enough : s.fPlen.toNat - 6 ≤ s.mem.pay.length) :
    s.spliceHeader.mem.pay.length = s.fPlen.toNat := by
  rw [State.spliceHeader, List.length_append, bhPack_length, List.length_take_of_le enough, Nat.add_sub_cancel' room]

/-- The spliced payload is as long as `ENC_FRAME` sends it, so it is sent whole. -/
theorem exec_encFrame_spliceHeader (named : codeClass s.cfg s.fCode ≠ .reserved) (room : 6 ≤ s.fPlen.toNat)
    (enough : s.fPlen.toNat - 6 ≤ s.mem.pay.length) :
    exec .encFrame s.spliceHeader = .next { s.spliceHeader with
      mem := { s.spliceHeader.mem with
        wire := cwBytes s.controlWord ++ bhBytes s.blockHeader ++ s.mem.pay.take (s.fPlen.toNat - 6) },
      status := 0x00 } := by
  have length := State.spliceHeader_pay_length room enough
  have whole : s.spliceHeader.mem.pay.take s.spliceHeader.fPlen.toNat = s.spliceHeader.mem.pay :=
    List.take_of_length_le length.le
  rw [exec_encFrame_built (s := s.spliceHeader) named length.ge, whole, List.append_assoc]
  rfl

theorem exec_decFrame_payload_length {u : State} (decoded : exec .decFrame s = .next u) (ok : u.status = 0x00) :
    u.mem.pay.length = u.fPlen.toNat := by
  obtain ⟨b0, b1, b2, b3, rest, -, fits, rfl⟩ := exec_decFrame_done decoded ok
  exact List.length_take_of_le fits

theorem exec_decFrame_cfg {u : State} (decoded : exec .decFrame s = .next u) (ok : u.status = 0x00) :
    u.cfg = s.cfg := by
  obtain ⟨b0, b1, b2, b3, rest, -, -, rfl⟩ := exec_decFrame_done decoded ok
  rfl

/-- What `DEC_FRAME` delivers in `PAY`, `DEC_BFRAME` delivers split. -/
theorem exec_decBframe_of_decFrame {u : State} (decoded : exec .decFrame s = .next u) (ok : u.status = 0x00)
    (room : 6 ≤ u.fPlen.toNat) : exec .decBframe s = .next u.splitHeader := by
  obtain ⟨b0, b1, b2, b3, rest, wire, fits, rfl⟩ := exec_decFrame_done decoded ok
  obtain ⟨length, head⟩ := controlWord_of_wire_cons wire
  have six : 6 ≤ b3.toNat := room
  have header : bhUnpack (slice s.mem.wire 4 6) = bhUnpack (rest.take b3.toNat) := by
    rw [bhUnpack_take rest six, ← bhUnpack_take rest (Nat.le_refl 6), wire]
    rfl
  have fragment : slice s.mem.wire 10 ((cwOfBytes b0 b1 b2 b3).plen.toNat - 6) = (rest.take b3.toNat).drop 6 := by
    rw [List.drop_take, wire]
    rfl
  rw [exec_decBframe_delivered (by omega) head six (length ▸ Nat.add_le_add_left fits 4), header, fragment]
  rfl

/-- Every `DEC_BFRAME` that is done is such a split of a `DEC_FRAME`. -/
theorem exec_decBframe_done {t : State} (decoded : exec .decBframe s = .next t) (ok : t.status = 0x00) :
    ∃ u, exec .decFrame s = .next u ∧ u.status = 0x00 ∧ 6 ≤ u.fPlen.toNat ∧ t = u.splitHeader := by
  rcases Nat.lt_or_ge s.mem.wire.length 4 with short | enough
  · cases decoded.symm.trans (exec_decBframe_noControlWord short)
    nomatch ok
  rcases Nat.lt_or_ge (cwUnpack (headWord s.mem.wire)).plen.toNat 6 with nofit | room
  · cases decoded.symm.trans (exec_decBframe_noHeader enough rfl nofit)
    nomatch ok
  rcases Nat.lt_or_ge s.mem.wire.length (4 + (cwUnpack (headWord s.mem.wire)).plen.toNat) with short | fits
  · cases decoded.symm.trans (exec_decBframe_short enough rfl room short)
    nomatch ok
  have plain := exec_decFrame_delivered enough rfl fits
  cases decoded.symm.trans (exec_decBframe_of_decFrame plain rfl room)
  exact ⟨_, plain, rfl, room, rfl⟩

end Sys2Proof.Machine

namespace Sys2Proof.Proofs

open Machine

/-- Settles O25: the encoders meet in `exec_encFrame_spliceHeader`, the decoders in `exec_decBframe_done`. -/
theorem blockFrameIsAFrameWithTheHeaderInFront : Obligations.BlockFrameIsAFrameWithTheHeaderInFront := by
  refine ⟨?encode, ?decode⟩
  case encode =>
    intro s t encoded ok
    obtain ⟨named, block, room, enough⟩ := exec_encBframe_done encoded ok
    cases encoded.symm.trans (exec_encBframe_built named block room enough)
    exact ⟨_, exec_encFrame_spliceHeader named room enough, rfl, rfl⟩
  case decode =>
    intro s t decoded ok
    obtain ⟨u, plain, plainOk, room, rfl⟩ := exec_decBframe_done decoded ok
    have six : 6 ≤ u.mem.pay.length := exec_decFrame_payload_length plain plainOk ▸ room
    exact ⟨u, plain, plainOk, rfl, (bhPack_bhUnpack six).symm, rfl⟩

end Sys2Proof.Proofs
end

section
/-! The laws of the block family (42_block R148): the two round trips of a block frame, and when `DEC_BFRAME` is done. -/

namespace Sys2Proof.Machine

variable {s : State}

/-- 42_block R148 (b): control word, header and fragment stand in the datagram where `DEC_BFRAME` looks for them. -/
theorem decBframe_after_encBframe (named : codeClass s.cfg s.fCode ≠ .reserved) (block : s.fBf = 1)
    (room : 6 ≤ s.fPlen.toNat) (enough : s.fPlen.toNat - 6 ≤ s.mem.pay.length) :
    ∃ t u, exec .encBframe s = .next t ∧ exec .decBframe t = .next u ∧ t.status = 0x00 ∧ u.status = 0x00 ∧
      u.controlWord = s.controlWord ∧ u.blockHeader = s.blockHeader ∧
      u.mem.pay = s.mem.pay.take (s.fPlen.toNat - 6) := by
  have length : (cwBytes s.controlWord ++ bhBytes s.blockHeader ++ s.mem.pay.take (s.fPlen.toNat - 6)).length =
      4 + s.fPlen.toNat := by
    rw [List.append_assoc, List.length_append]
    exact congrArg (4 + ·) (State.spliceHeader_pay_length room enough)
  refine ⟨_, _, exec_encBframe_built named block room enough,
    exec_decBframe_delivered ?_ (cwUnpack_headWord_cwBytes s.controlWord) room ?_, rfl, rfl, rfl,
    bhUnpack_bhBytes s.blockHeader, ?_⟩
  · exact length ▸ Nat.le_add_right 4 _
  · exact length.ge
  · exact List.take_take.trans (congrArg (s.mem.pay.take ·) (Nat.min_self _))

/-- 42_block R148 (c): `ENC_FRAME` gives back the datagram of the frame `DEC_FRAME` delivers, and header and fragment are
that frame's payload. -/
theorem encBframe_after_decBframe {t : State} (decoded : exec .decBframe s = .next t) (ok : t.status = 0x00)
    (named : codeClass s.cfg t.fCode ≠ .reserved) (block : t.fBf = 1) :
    ∃ u, exec .encBframe t = .next u ∧ u.mem.wire = s.mem.wire.take (4 + t.fPlen.toNat) := by
  obtain ⟨frame, plain, plainOk, room, rfl⟩ := exec_decBframe_done decoded ok
  obtain ⟨u, encoded, wire⟩ := encFrame_after_decFrame plain plainOk named
  have length := exec_decFrame_payload_length plain plainOk
  rw [← exec_decFrame_cfg plain plainOk] at named
  have fragment : frame.fPlen.toNat - 6 ≤ (frame.mem.pay.drop 6).length := by
    rw [List.length_drop, length]
  cases encoded.symm.trans (exec_encFrame_built named length.ge)
  refine ⟨_, exec_encBframe_built named block room fragment, ?_⟩
  calc cwBytes frame.controlWord ++ bhBytes (bhUnpack frame.mem.pay) ++
        (frame.mem.pay.drop 6).take (frame.fPlen.toNat - 6)
      = cwBytes frame.controlWord ++ frame.mem.pay.take frame.fPlen.toNat := by
        rw [List.append_assoc, ← bhPack_eq_bhBytes, bhPack_bhUnpack_append_take (length ▸ room) room]
    _ = s.mem.wire.take (4 + frame.fPlen.toNat) := wire

/-- 42_block R148 (d). -/
theorem exec_decBframe_done_iff : (∃ t, exec .decBframe s = .next t ∧ t.status = 0x00) ↔
    ∃ t, exec .decFrame s = .next t ∧ t.status = 0x00 ∧ 6 ≤ t.fPlen.toNat := by
  constructor
  · rintro ⟨t, decoded, ok⟩
    obtain ⟨u, plain, plainOk, room, -⟩ := exec_decBframe_done decoded ok
    exact ⟨u, plain, plainOk, room⟩
  · rintro ⟨u, plain, plainOk, room⟩
    exact ⟨u.splitHeader, exec_decBframe_of_decFrame plain plainOk room, plainOk⟩

end Sys2Proof.Machine

namespace Sys2Proof.Proofs

open Machine

/-- Settles O26: a lemma per law. -/
theorem blockFamilyLaws : Obligations.BlockFamilyLaws :=
  fun s => ⟨decBh_after_encBh s, decBframe_after_encBframe, fun _ => encBframe_after_decBframe,
    exec_decBframe_done_iff⟩

end Sys2Proof.Proofs
end

section
/-! The checksum functions (43_crc16 R156 to R159): one iteration as arithmetic on naturals, a byte as eight iterations,
and a byte sequence as a sequence of accumulators. -/

namespace Sys2Proof.Machine

theorem getLsbD_reflect16 (v : Word16) {i : Nat} (inside : i < 16) : (reflect16 v).getLsbD i = v.getLsbD (15 - i) := by
  rw [reflect16, BitVec.getLsbD_reverse, BitVec.getMsbD_eq_getLsbD, decide_eq_true inside, Bool.true_and]

/-- Bit 0 is the parity, and a shift right halves. -/
theorem crcShiftRight_toNat (poly a : Word16) : (crcShiftRight poly a).toNat =
    if a.toNat % 2 = 1 then (a.toNat / 2) ^^^ (reflect16 poly).toNat else a.toNat / 2 := by
  have parity : a.getLsbD 0 = true ↔ a.toNat % 2 = 1 := by
    rw [BitVec.getLsbD, Nat.testBit_zero, decide_eq_true_iff]
  have halved : (a >>> 1).toNat = a.toNat / 2 := by
    rw [BitVec.toNat_ushiftRight, Nat.shiftRight_eq_div_pow, Nat.pow_one]
  simp only [crcShiftRight, parity, apply_ite BitVec.toNat, BitVec.toNat_xor, halved]

/-- Bit 15 says whether the value reaches 2^15, and a shift left doubles modulo 2^16. -/
theorem crcShiftLeft_toNat (poly a : Word16) : (crcShiftLeft poly a).toNat =
    if 2 ^ 15 ≤ a.toNat then (a.toNat * 2 % 2 ^ 16) ^^^ poly.toNat else a.toNat * 2 % 2 ^ 16 := by
  have topBit : a.getLsbD 15 = true ↔ 2 ^ 15 ≤ a.toNat := by
    rw [← decide_eq_true_iff (p := 2 ^ 15 ≤ a.toNat), ← BitVec.msb_eq_decide a, BitVec.msb_eq_getLsbD_last]
  have doubled : (a <<< 1).toNat = a.toNat * 2 % 2 ^ 16 := by
    rw [BitVec.toNat_shiftLeft, Nat.shiftLeft_eq, Nat.pow_one]
  simp only [crcShiftLeft, topBit, apply_ite BitVec.toNat, BitVec.toNat_xor, doubled]

theorem repeatTimes_eq_iterate {α : Type} (f : α → α) (n : Nat) (a : α) : repeatTimes f n a = f^[n] a := by
  induction n generalizing a with
  | zero => rfl
  | succ n ih => exact ih (f a)

/-- The byte xored in at the low end, as naturals. -/
theorem ofNat_xor_low (acc : Word16) (b : Byte) : BitVec.ofNat 16 (acc.toNat ^^^ b.toNat) = acc ^^^ b.setWidth 16 := by
  rw [BitVec.ofNat_xor, BitVec.ofNat_toNat, BitVec.ofNat_toNat, BitVec.setWidth_eq]

/-- The byte xored in at the high end, as naturals. -/
theorem ofNat_xor_high (acc : Word16) (b : Byte) :
    BitVec.ofNat 16 (acc.toNat ^^^ (b.toNat * 256)) = acc ^^^ (b.setWidth 16 <<< 8) := by
  have moved : BitVec.ofNat 16 (b.toNat * 256) = b.setWidth 16 <<< 8 := by
    rw [BitVec.ofNat_mul, BitVec.ofNat_toNat, BitVec.shiftLeft_eq_mul_twoPow]
    rfl
  rw [BitVec.ofNat_xor, moved, BitVec.ofNat_toNat, BitVec.setWidth_eq]

theorem crcStep_eq_iterate (c : Config) (acc : Word16) (b : Byte) : crcStep c acc b =
    if c.crcRefin = true then (crcShiftRight c.crcPoly)^[8] (BitVec.ofNat 16 (acc.toNat ^^^ b.toNat))
    else (crcShiftLeft c.crcPoly)^[8] (BitVec.ofNat 16 (acc.toNat ^^^ (b.toNat * 256))) := by
  rw [ofNat_xor_low, ofNat_xor_high, crcStep, repeatTimes_eq_iterate, repeatTimes_eq_iterate]

theorem crcFinal_eq_ite_ne (c : Config) (acc : Word16) :
    crcFinal c acc = (if c.crcRefin ≠ c.crcRefout then reflect16 acc else acc) ^^^ c.crcXorout := by
  rw [crcFinal, ite_not]

theorem crcFinal_default (acc : Word16) : crcFinal Config.default acc = acc := BitVec.xor_zero

theorem crcFeed_take_succ (c : Config) (acc : Word16) {s : List Byte} {i : Nat} {b : Byte} (byte : s[i]? = some b) :
    crcFeed c acc (s.take (i + 1)) = crcStep c (crcFeed c acc (s.take i)) b := by
  rw [List.take_add_one, byte, crcFeed_append]
  rfl

/-- The accumulators of 43_crc16 R159: the one after `i` bytes is what the first `i` bytes leave. -/
theorem exists_crcFeed_sequence (c : Config) (acc : Word16) (s : List Byte) : ∃ a : Nat → Word16, a 0 = acc ∧
    (∀ i b, s[i]? = some b → a (i + 1) = crcStep c (a i) b) ∧ a s.length = crcFeed c acc s :=
  ⟨fun i => crcFeed c acc (s.take i), rfl, fun _ _ => crcFeed_take_succ c acc,
    congrArg (crcFeed c acc) List.take_length⟩

end Sys2Proof.Machine

namespace Sys2Proof.Proofs

open Machine

/-- Settles O27: a lemma per function; the start value is how `crcStart` is defined. -/
theorem checksumFunctionsFollowTheRules : Obligations.ChecksumFunctionsFollowTheRules := by
  refine ⟨fun v _ => getLsbD_reflect16 v, fun _ => rfl, crcShiftRight_toNat, crcShiftLeft_toNat, crcStep_eq_iterate,
    crcFinal_eq_ite_ne, fun c data => ?_, by decide, crcFinal_default⟩
  obtain ⟨a, start, next, last⟩ := exists_crcFeed_sequence c (crcStart c) data
  exact ⟨a, start, next, by rw [crc16, last]⟩

end Sys2Proof.Proofs
end

section
/-! The checksum commands: an equation per command (43_crc16 R160 to R164). None of them fails. -/

namespace Sys2Proof.Machine

variable (s : State)

theorem exec_crcClr : exec .crcClr s = .next { s with crcAcc := crcStart s.cfg, status := 0x00 } := rfl

theorem exec_crcUpdb (imm8 : Byte) :
    exec (.crcUpdb imm8) s = .next { s with crcAcc := crcStep s.cfg s.crcAcc imm8, status := 0x00 } := rfl

theorem exec_crcUpdp :
    exec .crcUpdp s = .next { s with crcAcc := crcFeed s.cfg s.crcAcc s.mem.pay, status := 0x00 } := rfl

theorem exec_crcGet : exec .crcGet s = .next { s with fCrc := crcFinal s.cfg s.crcAcc, status := 0x00 } := rfl

theorem exec_crcChk : exec .crcChk s = .next { s with
    flags := withFlag s.flags .crcok (decide (crcFinal s.cfg s.crcAcc = s.fCrc)), status := 0x00 } := rfl

end Sys2Proof.Machine

namespace Sys2Proof.Proofs

open Machine

/-- Settles O29: `CRC_CLR` has one outcome. -/
theorem crcClrStartsAChecksum : Obligations.CrcClrStartsAChecksum := exec_crcClr

/-- Settles O30: `CRC_UPDB` has one outcome. -/
theorem crcUpdbFeedsTheImmediate : Obligations.CrcUpdbFeedsTheImmediate := exec_crcUpdb

/-- Settles O31: the accumulators of `exists_crcFeed_sequence`, from `CRC_ACC` over the bytes of `PAY`. -/
theorem crcUpdpFeedsEveryByteInOrder : Obligations.CrcUpdpFeedsEveryByteInOrder := by
  intro s
  obtain ⟨a, start, next, last⟩ := exists_crcFeed_sequence s.cfg s.crcAcc s.mem.pay
  exact ⟨a, start, next, by rw [last, exec_crcUpdp]⟩

/-- Settles O32: `CRC_GET` has one outcome. -/
theorem crcGetDeliversTheFinalValue : Obligations.CrcGetDeliversTheFinalValue := exec_crcGet

/-- Settles O33: `CRC_CHK` has one outcome, whose flag is the truth of the comparison. -/
theorem crcChkComparesWithFCrc : Obligations.CrcChkComparesWithFCrc :=
  fun s => ⟨fun same => by rw [exec_crcChk, decide_eq_true same],
    fun differ => by rw [exec_crcChk, decide_eq_false differ]⟩

end Sys2Proof.Proofs
end

section
/-! Runs of the machine that no fault or refusal stops: a first step, and two runs in a row. -/

namespace Sys2Proof.Machine

theorem run_succ_of_step {M : Host.Core} {s t : M.State} {k : Nat} (stepped : M.step s = .next t) :
    M.run (k + 1) s = M.run k t := by
  rw [Host.Core.run, stepped]

theorem run_add {M : Host.Core} {s t : M.State} {m : Nat} (n : Nat) (first : M.run m s = .next t) :
    M.run (m + n) s = M.run n t := by
  induction m generalizing s with
  | zero =>
    cases first
    rw [Nat.zero_add]
  | succ m ih =>
    rw [Host.Core.run] at first
    split at first
    · next stepped => rw [Nat.add_right_comm, run_succ_of_step stepped, ih first]
    · cases first
    · cases first

section
variable {s t : State} (stepped : step s = .next t)
include stepped

/-- `run_succ_of_step` for DFC. -/
theorem run_succ (k : Nat) : core.run (k + 1) s = core.run k t := run_succ_of_step (M := core) stepped

theorem run_one : core.run 1 s = .next t := run_succ stepped 0

end

end Sys2Proof.Machine
end

section
/-! The chunking law (43_crc16 R165): what one piece of a payload leaves, and pieces in a row. -/

namespace Sys2Proof

theorem cmdOpc_append (opc imm8 : Byte) : cmdOpc (opc ++ imm8) = opc := BitVec.extractLsb'_append_eq_left

theorem cmdImm_append (opc imm8 : Byte) : cmdImm (opc ++ imm8) = imm8 := BitVec.extractLsb'_append_eq_right

theorem decodeCommand_crcUpdb (hasCorr : Bool) (b : Byte) : decodeCommand hasCorr (0x41#8 ++ b) = .ok (.crcUpdb b) := by
  refine decodeCommand_eq_ok_iff.mpr ⟨.ci, ?_, nofun, nofun⟩
  rw [cmdOpc_append, cmdImm_append]
  rfl

end Sys2Proof

namespace Sys2Proof.Machine

variable {s : State} {rest : List Transaction}

/-- `step_cmd_ok` on a state whose waiting list is known. -/
theorem step_of_pending_cmd {w : Word16} {i : Instr} (waiting : s.pending = .cmd w :: rest)
    (decoded : decodeCommand s.cfg.hasCorr w = .ok i) :
    step s = exec i { s with pending := rest, reply := .none } := by
  rw [← step_cmd_ok decoded, ← waiting]

/-! ### The steps of a checksum, on a state whose waiting list is known -/

theorem step_crcClr (waiting : s.pending = .cmd 0x4000 :: rest) :
    step s = .next { s with pending := rest, reply := .none, crcAcc := crcStart s.cfg, status := 0x00 } :=
  (step_of_pending_cmd waiting rfl).trans (exec_crcClr _)

theorem step_crcUpdb {b : Byte} (waiting : s.pending = .cmd (0x41#8 ++ b) :: rest) :
    step s = .next { s with pending := rest, reply := .none, crcAcc := crcStep s.cfg s.crcAcc b, status := 0x00 } :=
  (step_of_pending_cmd waiting (decodeCommand_crcUpdb _ b)).trans (exec_crcUpdb _ b)

theorem step_crcUpdp (waiting : s.pending = .cmd 0x4200 :: rest) :
    step s = .next { s with
      pending := rest, reply := .none, crcAcc := crcFeed s.cfg s.crcAcc s.mem.pay, status := 0x00 } :=
  (step_of_pending_cmd waiting rfl).trans (exec_crcUpdp _)

theorem step_crcGet (waiting : s.pending = .cmd 0x4300 :: rest) :
    step s = .next { s with pending := rest, reply := .none, fCrc := crcFinal s.cfg s.crcAcc, status := 0x00 } :=
  (step_of_pending_cmd waiting rfl).trans (exec_crcGet _)

theorem step_loadPay {bytes : List Byte} (waiting : s.pending = .load .pay bytes :: rest)
    (fits : bytes.length ≤ s.cfg.payCap) :
    step s = .next { s with pending := rest, reply := .none, mem := s.mem.replace .pay bytes } := by
  rw [← step_load fits, ← waiting]

/-! ### Pieces -/

/-- `t` is where DFC stands once `bytes` have been fed to the checksum from `s`, with `rest` still waiting. -/
structure Fed (s : State) (bytes : List Byte) (rest : List Transaction) (t : State) : Prop where
  cfg : t.cfg = s.cfg
  crcAcc : t.crcAcc = crcFeed s.cfg s.crcAcc bytes
  pending : t.pending = rest

theorem Fed.append {bytes more : List Byte} {mid : List Transaction} {t u : State} (first : Fed s bytes mid t)
    (second : Fed t more rest u) : Fed s (bytes ++ more) rest u where
  cfg := second.cfg.trans first.cfg
  crcAcc := by rw [second.crcAcc, first.cfg, first.crcAcc, crcFeed_append]
  pending := second.pending

theorem run_piece (p : Piece) (fits : ∀ chunk, p = .chunk chunk → chunk.length ≤ s.cfg.payCap)
    (waiting : s.pending = p.transactions ++ rest) :
    ∃ t, core.run p.transactions.length s = .next t ∧ Fed s p.bytes rest t := by
  cases p with
  | byte b => exact ⟨_, run_one (step_crcUpdb waiting), rfl, rfl, rfl⟩
  | chunk bytes =>
    have loaded := step_loadPay waiting (fits bytes rfl)
    exact ⟨_, (run_succ loaded 1).trans (run_one (step_crcUpdp rfl)), rfl, rfl, rfl⟩

theorem run_pieces (pieces : List Piece) (fits : ∀ chunk, .chunk chunk ∈ pieces → chunk.length ≤ s.cfg.payCap)
    (waiting : s.pending = pieces.flatMap Piece.transactions ++ rest) :
    ∃ t, core.run (pieces.flatMap Piece.transactions).length s = .next t ∧
      Fed s (pieces.flatMap Piece.bytes) rest t := by
  induction pieces generalizing s with
  | nil => exact ⟨s, rfl, rfl, rfl, waiting⟩
  | cons p ps ih =>
    rw [List.flatMap_cons, List.append_assoc] at waiting
    obtain ⟨t, runFirst, first⟩ := run_piece p (fun chunk same => fits chunk (same ▸ List.mem_cons_self)) waiting
    obtain ⟨u, runRest, others⟩ :=
      ih (fun chunk inRest => first.cfg ▸ fits chunk (List.mem_cons_of_mem p inRest)) first.pending
    refine ⟨u, ?_, first.append others⟩
    rw [List.flatMap_cons, List.length_append, run_add _ runFirst, runRest]

/-- 43_crc16 R165, second sentence. -/
theorem run_checksum (pieces : List Piece) (fits : ∀ chunk, .chunk chunk ∈ pieces → chunk.length ≤ s.cfg.payCap)
    (waiting : s.pending = .cmd 0x4000 :: pieces.flatMap Piece.transactions ++ .cmd 0x4300 :: rest) :
    ∃ t, core.run (2 + (pieces.flatMap Piece.transactions).length) s = .next t ∧
      t.fCrc = crc16 s.cfg (pieces.flatMap Piece.bytes) ∧
      t.crcAcc = crcFeed s.cfg (crcStart s.cfg) (pieces.flatMap Piece.bytes) ∧ t.pending = rest := by
  have cleared := step_crcClr waiting
  obtain ⟨t, ran, fed⟩ := run_pieces (rest := .cmd 0x4300 :: rest)
    (s := { s with pending := _, reply := .none, crcAcc := crcStart s.cfg, status := 0x00 }) pieces fits rfl
  have got := step_crcGet fed.pending
  rw [Nat.add_comm]
  exact ⟨_, (run_succ cleared _).trans ((run_add 1 ran).trans (run_one got)), congrArg₂ crcFinal fed.cfg fed.crcAcc,
    fed.crcAcc, rfl⟩

end Sys2Proof.Machine

namespace Sys2Proof.Proofs

open Machine

/-- Settles O34: `run_pieces` is the first sentence of R165 and `run_checksum` the second. -/
theorem checksumDoesNotDependOnChunking : Obligations.ChecksumDoesNotDependOnChunking := by
  intro s pieces after fits
  constructor
  · intro waiting
    obtain ⟨t, ran, fed⟩ := run_pieces pieces fits waiting
    exact ⟨t, ran, fed.crcAcc, fed.pending⟩
  · exact run_checksum pieces fits

end Sys2Proof.Proofs
end

section
/-! The payload helper commands: an equation per command and outcome (44_payload_helpers R171 to R174). -/

namespace Sys2Proof.Machine

/-- Setting bit 7 leaves the low seven bits as they are. -/
theorem resetByte_eq_append (imm8 : Byte) : resetByte imm8 = 1#1 ++ imm8.extractLsb' 0 7 := by
  have split : imm8.extractLsb' 7 1 ++ imm8.extractLsb' 0 7 = imm8 :=
    (BitVec.extractLsb'_append_extractLsb'_eq_extractLsb' rfl).trans BitVec.extractLsb'_eq_self
  calc imm8 ||| 0x80
      = (imm8.extractLsb' 7 1 ++ imm8.extractLsb' 0 7) ||| (1#1 ++ 0#7) := by rw [split]; rfl
    _ = (imm8.extractLsb' 7 1 ||| 1#1) ++ (imm8.extractLsb' 0 7 ||| 0#7) := BitVec.or_append
    _ = 1#1 ++ imm8.extractLsb' 0 7 := congrArg₂ (· ++ ·) BitVec.or_allOnes BitVec.or_zero

variable {s : State}

theorem exec_encRstp (s : State) (imm8 : Byte) : exec (.encRstp imm8) s =
    .next { s with mem := { s.mem with pay := [resetByte imm8] }, status := 0x00 } := rfl

theorem exec_decRstp_wrongLength (wrong : s.mem.pay.length ≠ 1) :
    exec .decRstp s = .next { s with status := 0x51 } :=
  if_pos wrong

theorem exec_decRstp_byte {b : Byte} (pay : s.mem.pay = [b]) : exec .decRstp s = .next { s with
    rErr := b.extractLsb' 0 7, flags := withFlag s.flags .errp (b.getLsbD 7), status := 0x00 } := by
  have read : exec .decRstp s = done (s.setResetByte (byteAt s.mem.pay 0)) :=
    if_neg (not_not_intro (congrArg List.length pay))
  rw [read, pay]
  rfl

theorem exec_encBackp (s : State) :
    exec .encBackp s = .next { s with mem := { s.mem with pay := be16 s.fOffset }, status := 0x00 } := rfl

theorem exec_decBackp_wrongLength (wrong : s.mem.pay.length ≠ 2) :
    exec .decBackp s = .next { s with status := 0x61 } :=
  if_pos wrong

theorem exec_decBackp_bytes {b0 b1 : Byte} (pay : s.mem.pay = [b0, b1]) :
    exec .decBackp s = .next { s with fOffset := u16 b0 b1, status := 0x00 } := by
  have read : exec .decBackp s = done { s with fOffset := u16 (byteAt s.mem.pay 0) (byteAt s.mem.pay 1) } :=
    if_neg (not_not_intro (congrArg List.length pay))
  rw [read, pay]
  rfl

end Sys2Proof.Machine

namespace Sys2Proof.Proofs

open Machine

/-- Settles O35: `ENC_RSTP` has one outcome, whose byte is `resetByte_eq_append`. -/
theorem encRstpPutsTheResetByte : Obligations.EncRstpPutsTheResetByte := by
  intro s imm8
  rw [exec_encRstp, resetByte_eq_append]

/-- Settles O36: an equation per outcome. -/
theorem decRstpReadsTheResetByte : Obligations.DecRstpReadsTheResetByte :=
  fun _ => ⟨exec_decRstp_wrongLength, fun _ => exec_decRstp_byte⟩

/-- Settles O37: `ENC_BACKP` has one outcome. -/
theorem encBackpPutsTheOffset : Obligations.EncBackpPutsTheOffset := exec_encBackp

/-- Settles O38: an equation per outcome. -/
theorem decBackpReadsTheOffset : Obligations.DecBackpReadsTheOffset :=
  fun _ => ⟨exec_decBackp_wrongLength, fun _ _ => exec_decBackp_bytes⟩

end Sys2Proof.Proofs
end

section
/-! The correlator commands: an equation per outcome (45_correlator R181 to R187). A lookup's outcome depends only on the
slot that answers, so `CAM_LOOK` and `CAM_TAKE` are one function of it each, and both match policies are read off there. -/

namespace Sys2Proof.Machine

/-- An entry of the table is read at its index. -/
theorem State.cam_getElem?_eq_entry {s : State} {k : Nat} (inside : k < s.cam.length) : s.cam[k]? = some (s.entry k) := by
  rw [State.entry, List.getD_eq_getElem _ _ inside, List.getElem?_eq_getElem inside]

/-- Equality of keys, part by part (10_state R49). -/
theorem slotMatches_iff_slotHasKey {s : State} {k : Nat} : s.slotMatches k = true ↔ slotHasKey s k := by
  rw [slotMatches_iff, entryKey, State.key, Key.mk.injEq, slotHasKey]

/-- A draw writes the model's own counter and nothing else. -/
theorem State.drawChoice_eq (s : State) : s.drawChoice = { s with freeCount := s.drawChoice.freeCount } := by
  unfold State.drawChoice
  split <;> rfl

/-- What a `CAM_LOOK` leaves when `slot` answers, with the model's own counter at `n` (45_correlator R185). -/
def State.afterLook (s : State) (slot : Option Nat) (n : Nat) : State :=
  { s with flags := withFlag s.flags .hit slot.isSome, rTag := slot.elim s.rTag fun k => (s.entry k).tag,
           rSlot := slot.elim s.rSlot (BitVec.ofNat 8), freeCount := n, status := 0x00 }

/-- What a `CAM_TAKE` leaves: as `CAM_LOOK`, and the slot that answers is invalid (45_correlator R186). -/
def State.afterTake (s : State) (slot : Option Nat) (n : Nat) : State :=
  { s.afterLook slot n with cam := slot.elim s.cam fun k => s.cam.set k { s.entry k with valid := false } }

section
variable {s : State} (corr : s.cfg.hasCorr = true)
include corr

theorem exec_tokAlloc :
    exec .tokAlloc s = .next { s with fToken := s.tokCnt, tokCnt := s.tokCnt + 1, status := 0x00 } :=
  withCorrelator_present _ corr

theorem exec_camIns_full (full : s.firstFree = none) : exec .camIns s = .next { s with status := 0x04 } := by
  rw [exec, execCamIns, withCorrelator_present _ corr, full]
  rfl

theorem exec_camIns_stored {k : Nat} (lowest : s.firstFree = some k) :
    exec .camIns s =
      .next { s with cam := s.cam.set k s.newEntry, rSlot := BitVec.ofNat 8 k, status := 0x00 } := by
  rw [exec, execCamIns, withCorrelator_present _ corr, lowest]
  rfl

theorem exec_camLook : exec .camLook s = .next (s.afterLook s.answeringSlot s.drawChoice.freeCount) := by
  rw [exec, execCamLook, withCorrelator_present _ corr, s.drawChoice_eq]
  cases s.answeringSlot <;> rfl

theorem exec_camTake : exec .camTake s = .next (s.afterTake s.answeringSlot s.drawChoice.freeCount) := by
  rw [exec, execCamTake, withCorrelator_present _ corr, s.drawChoice_eq]
  cases s.answeringSlot <;> rfl

theorem exec_camDel_badSlot {imm8 : Byte} (past : s.cfg.camDepth ≤ imm8.toNat) :
    exec (.camDel imm8) s = .next { s with status := 0xA2 } :=
  (withCorrelator_present _ corr).trans (if_pos past)

theorem exec_camDel_removed {imm8 : Byte} (inside : imm8.toNat < s.cfg.camDepth) :
    exec (.camDel imm8) s = .next { s with
      flags := withFlag s.flags .hit (s.entry imm8.toNat).valid,
      cam := s.cam.set imm8.toNat { s.entry imm8.toNat with valid := false }, status := 0x00 } :=
  (withCorrelator_present _ corr).trans (if_neg (Nat.not_le.mpr inside))

end

/-- The two match policies of 45_correlator R183, for any command whose outcome is a function `after` of the slot that
answers and of the model's own counter. -/
theorem lookup_by_policy {s : State} {o : StepOutcome} (after : Option Nat → Nat → State)
    (answer : o = .next (after s.answeringSlot s.drawChoice.freeCount)) :
    (s.cfg.camMatchPolicy = .lowestSlot → (∀ k < s.cfg.camDepth, ¬slotHasKey s k) →
      o = .next (after none s.freeCount)) ∧
    (∀ k < s.cfg.camDepth, s.cfg.camMatchPolicy = .lowestSlot → slotHasKey s k → (∀ j < k, ¬slotHasKey s j) →
      o = .next (after (some k) s.freeCount)) ∧
    (s.cfg.camMatchPolicy = .any → (∀ k < s.cfg.camDepth, ¬slotHasKey s k) → ∃ n, o = .next (after none n)) ∧
    (s.cfg.camMatchPolicy = .any → (∃ k < s.cfg.camDepth, slotHasKey s k) →
      ∃ k < s.cfg.camDepth, slotHasKey s k ∧ ∃ n, o = .next (after (some k) n)) := by
  subst answer
  simp only [← slotMatches_iff_slotHasKey, Bool.not_eq_true, ← answeringSlot_eq_none]
  refine ⟨?lowestMiss, ?lowestHit, ?anyMiss, ?anyHit⟩
  case lowestMiss =>
    intro lowest miss
    rw [miss, drawChoice_lowest lowest]
  case lowestHit =>
    intro k inside lowest hit least
    rw [answeringSlot_lowest lowest, firstMatch_eq_some.mpr ⟨inside, hit, least⟩, drawChoice_lowest lowest]
  case anyMiss =>
    intro _ miss
    exact ⟨_, by rw [miss]⟩
  case anyHit =>
    rintro - ⟨k, inside, hit⟩
    cases found : s.answeringSlot with
    | none => exact absurd hit (Bool.eq_false_iff.mp (answeringSlot_eq_none.mp found k inside))
    | some j =>
      obtain ⟨below, isMatch⟩ := answeringSlot_eq_some found
      exact ⟨j, below, isMatch, _, rfl⟩

end Sys2Proof.Machine

namespace Sys2Proof.Proofs

open Machine

/-- Settles O39: `TOK_ALLOC` has one outcome; a sum of ten bits is the sum modulo 1024. -/
theorem tokAllocDeliversTheCounter : Obligations.TokAllocDeliversTheCounter := by
  intro s corr
  have wraps : BitVec.ofNat 10 ((s.tokCnt.toNat + 1) % 1024) = s.tokCnt + 1 := by
    apply BitVec.eq_of_toNat_eq
    simp [BitVec.toNat_add]
  rw [exec_tokAlloc corr, wraps]

/-- Settles O40: `CAM_INS` has two outcomes, by `first_free`. -/
theorem camInsFillsTheLowestFreeSlot : Obligations.CamInsFillsTheLowestFreeSlot :=
  fun _ corr => ⟨fun full => exec_camIns_full corr (firstFree_eq_none.mpr full),
    fun _ inside free least => exec_camIns_stored corr (firstFree_eq_some.mpr ⟨inside, free, least⟩),
    fun _ => State.cam_getElem?_eq_entry⟩

/-- Settles O41: the outcome of `CAM_LOOK` under each policy. -/
theorem camLookReportsAMatchingSlot : Obligations.CamLookReportsAMatchingSlot :=
  fun s corr => lookup_by_policy s.afterLook (exec_camLook corr)

/-- Settles O42: the outcome of `CAM_TAKE` under each policy. -/
theorem camTakeRemovesTheSlotThatAnswers : Obligations.CamTakeRemovesTheSlotThatAnswers :=
  fun s corr => lookup_by_policy s.afterTake (exec_camTake corr)

/-- Settles O43: `CAM_DEL` has two outcomes. -/
theorem camDelRemovesByNumber : Obligations.CamDelRemovesByNumber :=
  fun _ _ corr => ⟨exec_camDel_badSlot corr, exec_camDel_removed corr⟩

end Sys2Proof.Proofs
end

section
/-! The instructions that leave the correlator table alone (20_memory R66), and what is needed to follow a run. -/

namespace Sys2Proof.Machine

/-- `P` holds of the state a step goes on in, if it goes on. -/
def Ensures (P : State → Prop) (o : StepOutcome) : Prop := ∀ t, o = .next t → P t

section
variable {P : State → Prop} {s : State}

theorem ensures_done (holds : P (s.setStatus .ok .none)) : Ensures P (done s) :=
  fun _ ran => done_eq_next.mp ran ▸ holds

theorem ensures_fail {st : St} {cause : Cause} (holds : P (s.setStatus st cause)) : Ensures P (fail s st cause) :=
  fun _ ran => fail_eq_next.mp ran ▸ holds

theorem ensures_ite {p : Prop} [Decidable p] {a b : StepOutcome} (yes : Ensures P a) (no : Ensures P b) :
    Ensures P (if p then a else b) := by
  split
  exacts [yes, no]

/-- A correlator command, with its meaning asked for only where there is a correlator (30_encoding R112). -/
theorem ensures_withCorrelator {body : StepOutcome} (absent : P (s.setStatus .invalidOp .none))
    (present : s.cfg.hasCorr = true → Ensures P (withCorrelator s body)) : Ensures P (withCorrelator s body) := by
  cases corr : s.cfg.hasCorr with
  | true => exact present corr
  | false =>
    rw [withCorrelator_absent _ corr]
    exact ensures_fail absent

end

/-- `t` has the configuration and the correlator table of `s`. -/
structure SameTable (s t : State) : Prop where
  cfg : t.cfg = s.cfg
  cam : t.cam = s.cam

section
variable {s : State}

/-- A failure writes `STATUS` alone. -/
theorem fail_sameTable {st : St} {cause : Cause} : Ensures (SameTable s) (fail s st cause) := ensures_fail ⟨rfl, rfl⟩

theorem receiveFrame_sameTable {cls : CodeClass} {cw : ControlWord} : Ensures (SameTable s) (receiveFrame cls cw s) :=
  ensures_ite fail_sameTable <| ensures_ite fail_sameTable <| ensures_ite fail_sameTable <|
    ensures_ite (ensures_done ⟨rfl, rfl⟩) <| ensures_ite (ensures_done ⟨rfl, rfl⟩) (ensures_done ⟨rfl, rfl⟩)

theorem camLook_sameTable : Ensures (SameTable s) (exec .camLook s) := by
  refine ensures_withCorrelator ⟨rfl, rfl⟩ fun corr t ran => ?_
  cases (exec_camLook corr).symm.trans ran
  exact ⟨rfl, rfl⟩

/-- An instruction that `mayWriteTable` does not name leaves the table: along its tests, each outcome is a failure or
writes other fields. -/
theorem exec_sameTable {i : Instr} (notNamed : mayWriteTable i = false) : Ensures (SameTable s) (exec i s) := by
  cases i with
  | srst | camIns | camTake | camDel imm8 => cases notNamed
  | nop | encBh | crcClr | crcUpdb imm8 | crcUpdp | crcGet | crcChk | encRstp imm8 | encBackp =>
    exact ensures_done ⟨rfl, rfl⟩
  | encCw | decCw | decBh | decRstp | decBackp => exact ensures_ite fail_sameTable (ensures_done ⟨rfl, rfl⟩)
  | encFrame | decFrame =>
    exact ensures_ite fail_sameTable <| ensures_ite fail_sameTable (ensures_done ⟨rfl, rfl⟩)
  | decBframe =>
    exact ensures_ite fail_sameTable <| ensures_ite fail_sameTable <|
      ensures_ite fail_sameTable (ensures_done ⟨rfl, rfl⟩)
  | encBframe =>
    exact ensures_ite fail_sameTable <| ensures_ite fail_sameTable <| ensures_ite fail_sameTable <|
      ensures_ite fail_sameTable (ensures_done ⟨rfl, rfl⟩)
  | decAuto => exact ensures_ite fail_sameTable <| ensures_ite fail_sameTable receiveFrame_sameTable
  | codeCon bf rid token plen => exact receiveFrame_sameTable (cls := .con)
  | codeNon bf rid token plen => exact receiveFrame_sameTable (cls := .non)
  | codeAck bf rid token plen => exact receiveFrame_sameTable (cls := .ack)
  | codeRst bf rid token plen => exact receiveFrame_sameTable (cls := .rst)
  | codeBack bf rid token plen => exact receiveFrame_sameTable (cls := .back)
  | tokAlloc => exact ensures_ite (ensures_done ⟨rfl, rfl⟩) fail_sameTable
  | camLook => exact camLook_sameTable

/-- The instructions that write the table (45_correlator R184, R186, R187; 46_system R201). -/
theorem mayWriteTable_eq_true {i : Instr} (named : mayWriteTable i = true) :
    i = .srst ∨ i = .camIns ∨ i = .camTake ∨ ∃ imm8, i = .camDel imm8 := by
  cases i with
  | srst => exact .inl rfl
  | camIns => exact .inr (.inl rfl)
  | camTake => exact .inr (.inr (.inl rfl))
  | camDel imm8 => exact .inr (.inr (.inr ⟨imm8, rfl⟩))
  | _ => cases named

theorem writeReg_sameTable (r : Reg) (v : Nat) : SameTable s (s.writeReg r v) := by
  cases r <;> exact ⟨rfl, rfl⟩

end

/-- A command word that decodes to `CAM_INS` is 0x6100, the word `neverFills` looks for. -/
theorem eq_camIns_word {hasCorr : Bool} {w : Word16} (decoded : decodeCommand hasCorr w = .ok .camIns) : w = 0x6100 :=
  (EncodedWord.command.inj (encode_of_decodeCommand decoded Config.default)).symm

/-- A run of one step and more, taken apart after its first step. -/
theorem exists_step_of_run_succ {M : Host.Core} {s t : M.State} {n : Nat} (ran : M.run (n + 1) s = .next t) :
    ∃ u, M.step s = .next u ∧ M.run n u = .next t := by
  rw [Host.Core.run] at ran
  split at ran
  · next u stepped => exact ⟨u, stepped, ran⟩
  · cases ran
  · cases ran

end Sys2Proof.Machine
end

section
/-! The exactly-once law (45_correlator R188): a free slot stays free until a `CAM_INS` fills it, and only a slot that is not
free is reported as a hit. -/

namespace Sys2Proof.Machine

/-- Slot `k` is free, in a machine whose slot numbers fit `R_SLOT` (00_scope R8, 10_state R47). -/
structure SlotFree (k : Nat) (s : State) : Prop where
  narrow : s.cfg.camDepth ≤ 256
  invalid : (s.entry k).valid = false

section
variable {k : Nat} {s t : State}

/-- Freeing any slot leaves a free slot free. -/
theorem State.clearSlot_keeps_free (i : Nat) (free : (s.entry k).valid = false) :
    ((s.clearSlot i).entry k).valid = false := by
  by_cases same : k = i
  · rw [same]
    exact s.clearSlot_invalid i
  · rw [State.clearSlot, s.entry_setEntry_other _ same]
    exact free

/-- Every slot is free after a reset. -/
theorem State.resetState_entry (s : State) (k : Nat) : s.resetState.entry k = CamEntry.empty :=
  List.getElem?_getD_replicate_default_eq CamEntry.empty s.cfg.slots k

theorem SlotFree.of_sameTable (free : SlotFree k s) (same : SameTable s t) : SlotFree k t where
  narrow := same.cfg ▸ free.narrow
  invalid := by
    rw [State.entry, same.cam]
    exact free.invalid

theorem SlotFree.resetState (free : SlotFree k s) : SlotFree k s.resetState where
  narrow := free.narrow
  invalid := by rw [State.resetState_entry]; rfl

variable (free : SlotFree k s)
include free

theorem camIns_slotFree (other : s.cfg.hasCorr = true → s.firstFree ≠ some k) :
    Ensures (SlotFree k) (exec .camIns s) := by
  refine ensures_withCorrelator (free.of_sameTable ⟨rfl, rfl⟩) fun corr t ran => ?_
  cases found : s.firstFree with
  | none =>
    cases (exec_camIns_full corr found).symm.trans ran
    exact free.of_sameTable ⟨rfl, rfl⟩
  | some j =>
    cases (exec_camIns_stored corr found).symm.trans ran
    have distinct : k ≠ j := fun same => other corr (same ▸ found)
    exact ⟨free.narrow, (congrArg CamEntry.valid (s.entry_setEntry_other s.newEntry distinct)).trans free.invalid⟩

theorem camTake_slotFree : Ensures (SlotFree k) (exec .camTake s) := by
  refine ensures_withCorrelator (free.of_sameTable ⟨rfl, rfl⟩) fun corr t ran => ?_
  cases (exec_camTake corr).symm.trans ran
  cases s.answeringSlot with
  | none => exact free.of_sameTable ⟨rfl, rfl⟩
  | some j => exact ⟨free.narrow, s.clearSlot_keeps_free j free.invalid⟩

theorem camDel_slotFree {imm8 : Byte} : Ensures (SlotFree k) (exec (.camDel imm8) s) :=
  ensures_ite
    (ensures_ite (ensures_fail (free.of_sameTable ⟨rfl, rfl⟩))
      (ensures_done ⟨free.narrow, s.clearSlot_keeps_free imm8.toNat free.invalid⟩))
    (ensures_fail (free.of_sameTable ⟨rfl, rfl⟩))

/-- Only a `CAM_INS` that fills a free slot ends its being free. -/
theorem exec_slotFree {i : Instr} (other : i = .camIns → s.cfg.hasCorr = true → s.firstFree ≠ some k) :
    Ensures (SlotFree k) (exec i s) := by
  cases named : mayWriteTable i with
  | false => exact fun t ran => free.of_sameTable (exec_sameTable named t ran)
  | true =>
    rcases mayWriteTable_eq_true named with rfl | rfl | rfl | ⟨imm8, rfl⟩
    · exact ensures_done (free.resetState.of_sameTable ⟨rfl, rfl⟩)
    · exact camIns_slotFree free (other rfl)
    · exact camTake_slotFree free
    · exact camDel_slotFree free

theorem carryOut_slotFree {tr : Transaction}
    (other : tr = .cmd 0x6100 → s.cfg.hasCorr = true → s.firstFree ≠ some k) :
    Ensures (SlotFree k) (carryOut tr s) := by
  intro t ran
  cases tr with
  | regRead number =>
    obtain ⟨-, -, -, rfl⟩ := portRegRead_eq_next.mp ran
    exact free.of_sameTable ⟨rfl, rfl⟩
  | regWrite number value =>
    obtain ⟨r, -, -, -, -, rfl⟩ := portRegWrite_eq_next.mp ran
    exact free.of_sameTable (writeReg_sameTable r value)
  | load b bytes =>
    obtain ⟨-, rfl⟩ := portLoad_eq_next.mp ran
    exact free.of_sameTable ⟨rfl, rfl⟩
  | read b =>
    cases portRead_eq_next.mp ran
    exact free.of_sameTable ⟨rfl, rfl⟩
  | reset =>
    cases portReset_eq_next.mp ran
    exact free.resetState
  | cmd w =>
    rw [carryOut] at ran
    split at ran
    · next i decoded =>
      exact exec_slotFree free (fun isIns => other (congrArg Transaction.cmd (eq_camIns_word (isIns ▸ decoded)))) t ran
    · cases reservedEncoding_eq_next.mp ran
      exact free.of_sameTable ⟨rfl, rfl⟩

theorem step_slotFree (other : s.pending.head? = some (.cmd 0x6100) → s.cfg.hasCorr = true → s.firstFree ≠ some k) :
    Ensures (SlotFree k) (step s) := by
  intro t ran
  rcases step_cases ran with ⟨-, held⟩ | ⟨tr, rest, waiting, carried⟩
  · cases held
    exact free
  · have notFilled : tr = .cmd 0x6100 → s.cfg.hasCorr = true → s.firstFree ≠ some k :=
      fun isIns => other (by rw [waiting, isIns, List.head?_cons])
    exact carryOut_slotFree (s := { s with pending := rest, reply := .none }) (free.of_sameTable ⟨rfl, rfl⟩) notFilled t
      carried

/-- A free slot stays free along every run that does not fill it. -/
theorem run_slotFree {n : Nat} (notFilled : neverFills k n s) : Ensures (SlotFree k) (core.run n s) := by
  intro t ran
  induction n generalizing s with
  | zero =>
    cases ran
    exact free
  | succ n ih =>
    obtain ⟨u, stepped, rest⟩ := exists_step_of_run_succ (M := core) ran
    have freeNext : SlotFree k u := step_slotFree free (notFilled 0 n.succ_pos s rfl) u stepped
    refine ih freeNext (fun m before v reached => ?_) rest
    exact notFilled (m + 1) (Nat.succ_lt_succ before) v ((run_succ stepped m).trans reached)

end

/-! ### The commands that report a hit -/

section
variable {k : Nat} {s u : State}

/-- Without a correlator a correlator command is not done (30_encoding R112). -/
theorem hasCorr_of_withCorrelator_done {body : StepOutcome} (ran : withCorrelator s body = .next u)
    (ok : u.status = 0x00) : s.cfg.hasCorr = true := by
  rcases withCorrelator_eq_next.mp ran with ⟨corr, -⟩ | ⟨-, rfl⟩
  · exact corr
  · nomatch ok

theorem valid_of_answeringSlot (answers : s.answeringSlot = some k) : (s.entry k).valid = true :=
  (slotMatches_iff.mp (answeringSlot_eq_some answers).2).1

/-- A lookup that reports a hit names in `R_SLOT` the slot that answered: the number fits its 8 bits. -/
theorem answeringSlot_of_hit {n : Nat} (narrow : s.cfg.camDepth ≤ 256)
    (hit : flagOf (s.afterLook s.answeringSlot n).flags .hit = true)
    (slot : (s.afterLook s.answeringSlot n).rSlot.toNat = k) : s.answeringSlot = some k := by
  rw [State.afterLook, flagOf_withFlag, if_pos rfl] at hit
  obtain ⟨j, answers⟩ := Option.isSome_iff_exists.mp hit
  have below : j < 2 ^ 8 := Nat.lt_of_lt_of_le (answeringSlot_eq_some answers).1 narrow
  rw [answers] at slot ⊢
  rw [← slot]
  exact congrArg some (Nat.mod_eq_of_lt below).symm

/-- The three ways a command reports a hit on slot `k`, the removing two with the state they leave (45_correlator R185 to
R187). -/
theorem reportsHitOn_cases {i : Instr} (narrow : s.cfg.camDepth ≤ 256) (ran : exec i s = .next u)
    (hit : reportsHitOn k i u) : (s.entry k).valid = true ∧
    (i = .camLook ∨ (i = .camTake ∧ ∃ n, u = s.afterTake (some k) n) ∨
      ∃ imm8 : Byte, i = .camDel imm8 ∧ u = ((s.setFlag .hit true).clearSlot k).setStatus .ok .none) := by
  obtain ⟨ok, flag, ⟨rfl | rfl, slot⟩ | ⟨imm8, rfl, rfl⟩⟩ := hit
  · cases (exec_camLook (hasCorr_of_withCorrelator_done ran ok)).symm.trans ran
    have answers := answeringSlot_of_hit (n := s.drawChoice.freeCount) narrow flag slot
    exact ⟨valid_of_answeringSlot answers, .inl rfl⟩
  · cases (exec_camTake (hasCorr_of_withCorrelator_done ran ok)).symm.trans ran
    have answers := answeringSlot_of_hit (n := s.drawChoice.freeCount) narrow flag slot
    exact ⟨valid_of_answeringSlot answers, .inr (.inl ⟨rfl, _, by rw [answers]⟩)⟩
  · have corr := hasCorr_of_withCorrelator_done ran ok
    rcases Nat.lt_or_ge imm8.toNat s.cfg.camDepth with inside | past
    · cases (exec_camDel_removed corr inside).symm.trans ran
      have valid : (s.entry imm8.toNat).valid = true := by simpa [flagOf_withFlag] using flag
      exact ⟨valid, .inr (.inr ⟨imm8, rfl, by rw [valid]; rfl⟩)⟩
    · cases (exec_camDel_badSlot corr past).symm.trans ran
      nomatch ok

/-- No command reports a hit on a free slot. -/
theorem SlotFree.not_reportsHitOn {i : Instr} (free : SlotFree k s) (ran : exec i s = .next u) : ¬reportsHitOn k i u :=
  fun hit => absurd (reportsHitOn_cases free.narrow ran hit).1 (Bool.eq_false_iff.mp free.invalid)

/-- A `CAM_TAKE` or a `CAM_DEL` that reports a hit leaves the slot free, and a `CAM_TAKE` leaves its tag in `R_TAG`. -/
theorem slotFree_of_hit {i : Instr} (narrow : s.cfg.camDepth ≤ 256) (ran : exec i s = .next u)
    (removes : i ≠ .camLook) (hit : reportsHitOn k i u) :
    SlotFree k u ∧ (i = .camTake → u.rTag = (s.entry k).tag) := by
  obtain ⟨-, isLook | ⟨-, n, rfl⟩ | ⟨imm8, rfl, rfl⟩⟩ := reportsHitOn_cases narrow ran hit
  · exact absurd isLook removes
  · exact ⟨⟨narrow, s.clearSlot_invalid k⟩, fun _ => rfl⟩
  · exact ⟨⟨narrow, s.clearSlot_invalid k⟩, nofun⟩

end

end Sys2Proof.Machine

namespace Sys2Proof.Proofs

open Machine

/-- Settles O45: a removing command leaves the slot free, a run that does not fill it keeps it free, and no command
reports a hit on a free slot. -/
theorem anEntryIsTakenAtMostOnce : Obligations.AnEntryIsTakenAtMostOnce := by
  intro s u i k wf ran removes hit
  obtain ⟨-, -, -, -, narrow, -⟩ := wf.config
  obtain ⟨freed, tag⟩ := slotFree_of_hit narrow ran removes hit
  refine ⟨(reportsHitOn_cases narrow ran hit).1, freed.invalid, tag, fun n t notFilled reached => ?_⟩
  have stillFree : SlotFree k t := run_slotFree freed notFilled t reached
  exact ⟨stillFree.invalid, fun _ _ answered => stillFree.not_reportsHitOn answered⟩

end Sys2Proof.Proofs
end

section
/-! The system commands: an equation per command (46_system R200, R201), and the table of 10_state R51 for what `SRST`
leaves. Neither of them fails. -/

namespace Sys2Proof.Machine

variable (s : State)

theorem exec_nop : exec .nop s = .next { s with status := 0x00 } := rfl

/-- The status `SRST` reports, 0x00, is the reset value of `STATUS`. -/
theorem exec_srst : exec .srst s = .next s.resetState := rfl

/-- The registers and buffers by the fields of `State.resetWith`, the slots by `State.resetState_entry`. -/
theorem State.resetState_atReset : atReset s.cfg s.resetState := by
  have slotsFree : ∀ k, (s.resetState.entry k).valid = false := fun k => by
    rw [s.resetState_entry, CamEntry.empty]
  simp [atReset, State.resetWith, slotsFree]

end Sys2Proof.Machine

namespace Sys2Proof.Proofs

open Machine

/-- Settles O11: `NOP` has one outcome. -/
theorem nopWritesOnlyStatus : Obligations.NopWritesOnlyStatus := exec_nop

/-- Settles O12: `SRST` has one outcome, the state `State.resetState` makes, which keeps the model's own fields. -/
theorem srstLeavesTheResetState : Obligations.SrstLeavesTheResetState :=
  fun s => ⟨s.resetState, exec_srst s, s.resetState_atReset, s.resetState_pending, s.resetState_reply,
    s.resetState_freeCount⟩

end Sys2Proof.Proofs
end

section
/-! The values of `STATUS` (60_exceptions R213): the commands that end with 0x00, and for the others the value of each of
their outcomes. -/

namespace Sys2Proof.Machine

/-- The step goes on, with a `STATUS` of the list of 60_exceptions R213. -/
def EndsListed (o : StepOutcome) : Prop := ∃ t, o = .next t ∧ t.status ∈ statusValues

section
variable {s : State}

theorem endsListed_done : EndsListed (done s) := ⟨s.setStatus .ok .none, rfl, by rw [s.setStatus_status]; decide⟩

/-- A failure with a class and a cause of the list; `listed` is checked for each pair where a meaning fails with it. -/
theorem endsListed_fail {st : St} {cause : Cause} (listed : statusByte st cause ∈ statusValues := by decide) :
    EndsListed (fail s st cause) := ⟨s.setStatus st cause, rfl, listed⟩

theorem endsListed_reservedEncoding : EndsListed (reservedEncoding s) := endsListed_fail

theorem endsListed_ite {p : Prop} [Decidable p] {a b : StepOutcome} (yes : EndsListed a) (no : EndsListed b) :
    EndsListed (if p then a else b) := by
  split
  exacts [yes, no]

theorem receiveFrame_endsListed {cls : CodeClass} {cw : ControlWord} : EndsListed (receiveFrame cls cw s) :=
  endsListed_ite endsListed_fail <| endsListed_ite endsListed_fail <| endsListed_ite endsListed_fail <|
    endsListed_ite endsListed_done <| endsListed_ite endsListed_done endsListed_done

/-- 30_encoding R112, on the meanings. -/
theorem exec_correlatorAbsent {i : Instr} (isCorr : i.isCorrelator = true) (absent : s.cfg.hasCorr = false) :
    exec i s = reservedEncoding s := by
  cases i with
  | tokAlloc | camIns | camLook | camTake | camDel imm8 => exact withCorrelator_absent _ absent
  | _ => cases isCorr

/-- A command of the never-failing list has one outcome (60_exceptions R213); those of the correlator have it where there is a
correlator. -/
theorem exec_neverFails {i : Instr} (sure : neverFails i = true) (wf : i.Wf s.cfg) :
    ∃ t, exec i s = .next t ∧ t.status = 0x00 := by
  cases i with
  | nop | srst | encBh | crcClr | crcUpdb imm8 | crcUpdp | crcGet | crcChk | encRstp imm8 | encBackp =>
    exact ⟨_, rfl, rfl⟩
  | tokAlloc => exact ⟨_, exec_tokAlloc (wf rfl), rfl⟩
  | camLook => exact ⟨_, exec_camLook (wf rfl), rfl⟩
  | camTake => exact ⟨_, exec_camTake (wf rfl), rfl⟩
  | _ => cases sure

/-- Along the tests of a command that can fail, each outcome is `done` or a failure of the list. -/
theorem exec_mayFail_endsListed {i : Instr} (unsure : neverFails i = false) : EndsListed (exec i s) := by
  cases i with
  | encCw | decCw | decBh | decRstp | decBackp => exact endsListed_ite endsListed_fail endsListed_done
  | encFrame | decFrame => exact endsListed_ite endsListed_fail <| endsListed_ite endsListed_fail endsListed_done
  | decBframe =>
    exact endsListed_ite endsListed_fail <| endsListed_ite endsListed_fail <|
      endsListed_ite endsListed_fail endsListed_done
  | encBframe =>
    exact endsListed_ite endsListed_fail <| endsListed_ite endsListed_fail <| endsListed_ite endsListed_fail <|
      endsListed_ite endsListed_fail endsListed_done
  | decAuto => exact endsListed_ite endsListed_fail <| endsListed_ite endsListed_fail receiveFrame_endsListed
  | codeCon bf rid token plen => exact receiveFrame_endsListed (cls := .con)
  | codeNon bf rid token plen => exact receiveFrame_endsListed (cls := .non)
  | codeAck bf rid token plen => exact receiveFrame_endsListed (cls := .ack)
  | codeRst bf rid token plen => exact receiveFrame_endsListed (cls := .rst)
  | codeBack bf rid token plen => exact receiveFrame_endsListed (cls := .back)
  | camIns =>
    refine endsListed_ite ?_ endsListed_reservedEncoding
    split
    exacts [endsListed_fail, endsListed_done]
  | camDel imm8 =>
    exact endsListed_ite (endsListed_ite endsListed_fail endsListed_done) endsListed_reservedEncoding
  | _ => cases unsure

/-- Every instruction ends, also one that does not exist in the configuration: that is a reserved encoding. -/
theorem exec_endsListed (i : Instr) (s : State) : EndsListed (exec i s) := by
  cases sure : neverFails i with
  | false => exact exec_mayFail_endsListed sure
  | true =>
    by_cases wf : i.Wf s.cfg
    · obtain ⟨t, ran, ok⟩ := exec_neverFails sure wf
      exact ⟨t, ran, ok ▸ List.mem_cons_self⟩
    · obtain ⟨isCorr, absent⟩ := Classical.not_imp.mp wf
      rw [exec_correlatorAbsent isCorr (Bool.eq_false_of_not_eq_true absent)]
      exact endsListed_reservedEncoding

/-- A command word is carried out as a command or as a reserved encoding (30_encoding R107). -/
theorem step_cmd_endsListed {w : Word16} (first : s.pending.head? = some (.cmd w)) : EndsListed (step s) := by
  obtain ⟨rest, waiting⟩ := List.head?_eq_some_iff.mp first
  rw [step_cons waiting, carryOut]
  split
  exacts [exec_endsListed _ _, endsListed_reservedEncoding]

end

end Sys2Proof.Machine

namespace Sys2Proof.Proofs

open Machine

/-- Settles O47: a lemma per clause. -/
theorem statusIsAlwaysAListedValue : Obligations.StatusIsAlwaysAListedValue := by
  refine ⟨exec_endsListed, fun _ _ sure wf => exec_neverFails sure wf, fun s t w first ran => ?_⟩
  obtain ⟨u, stepped, listed⟩ := step_cmd_endsListed first
  cases stepped.symm.trans ran
  exact listed

end Sys2Proof.Proofs
end

section
/-! The frame-code classifier (30_encoding R106): the parameter each class stands for. -/

namespace Sys2Proof.Machine

/-- The value of a frame code's parameter; a reserved code has none (30_encoding R106). -/
def codeOfClass (c : Config) : CodeClass → Option (BitVec 3)
  | .con => some c.codeCon
  | .non => some c.codeNon
  | .ack => some c.codeAck
  | .rst => some c.codeRst
  | .back => some c.codeBack
  | .reserved => none

variable {c : Config} {v : BitVec 3}

theorem codeClass_eq_reserved_iff : codeClass c v = .reserved ↔
    v ≠ c.codeCon ∧ v ≠ c.codeNon ∧ v ≠ c.codeAck ∧ v ≠ c.codeRst ∧ v ≠ c.codeBack := by
  unfold codeClass
  split_ifs <;> simp_all

/-- A class is answered on the value of its parameter only, whether or not the codes are distinct. -/
theorem codeOfClass_codeClass (named : codeClass c v ≠ .reserved) : codeOfClass c (codeClass c v) = some v := by
  unfold codeClass at named ⊢
  split_ifs at named ⊢ with con non ack rst back
  · exact congrArg some con.symm
  · exact congrArg some non.symm
  · exact congrArg some ack.symm
  · exact congrArg some rst.symm
  · exact congrArg some back.symm
  · exact absurd rfl named

/-- With distinct codes (00_scope R8) no test before a parameter's own takes its value: read backwards, the list says of
each code that it differs from those tested before it. -/
theorem codeClass_codeOfClass (wf : c.Wf) {cls : CodeClass} (code : codeOfClass c cls = some v) :
    codeClass c v = cls := by
  obtain ⟨-, -, distinct, -⟩ := wf
  rw [← List.nodup_reverse] at distinct
  cases cls with
  | reserved => cases code
  | con | non | ack | rst | back =>
    cases code
    simp_all [codeClass]

/-- A class that has a parameter is answered exactly on its value. -/
theorem codeClass_eq_iff {cls : CodeClass} {p : BitVec 3} (wf : c.Wf) (parameter : codeOfClass c cls = some p) :
    codeClass c v = cls ↔ v = p := by
  constructor
  · rintro rfl
    have named : codeClass c v ≠ .reserved := fun reserved => by
      rw [reserved] at parameter
      cases parameter
    exact Option.some.inj ((codeOfClass_codeClass named).symm.trans parameter)
  · rintro rfl
    exact codeClass_codeOfClass wf parameter

end Sys2Proof.Machine

namespace Sys2Proof.Proofs

open Machine

/-- Settles O7: one law for the five classes with a parameter, and the values no test takes. -/
theorem codeClassFollowsTheParameters : Obligations.CodeClassFollowsTheParameters :=
  fun _ _ wf => ⟨codeClass_eq_iff wf rfl, codeClass_eq_iff wf rfl, codeClass_eq_iff wf rfl, codeClass_eq_iff wf rfl,
    codeClass_eq_iff wf rfl, codeClass_eq_reserved_iff⟩

end Sys2Proof.Proofs
end

section
/-! Decoding and encoding agree, both ways, for both kinds of word (30_encoding R86, R96 to R98, R104, R106, R107). -/

namespace Sys2Proof

open Machine

/-! ### Command words -/

/-- A row of the opcode map, on the word of its opcode and immediate. -/
theorem decode_commandWord {c : Config} {opc imm8 : Byte} {i : Instr} (fmt : Format) (wf : i.Wf c)
    (found : commandOf opc imm8 = some (fmt, i)) (immZero : fmt = .c0 → imm8 = 0) :
    decode c (commandWord opc imm8) = .ok i := by
  rw [commandWord, decode, decodeCommand_eq_ok_iff, cmdOpc_append, cmdImm_append]
  exact ⟨fmt, found, wf, immZero⟩

/-! ### Control words -/

/-- The control-word row of a class, with the operands of `cw` (30_encoding R108). -/
def rowOfClass (cw : ControlWord) : CodeClass → Option Instr
  | .con => some (.codeCon cw.bf cw.rid cw.token cw.plen)
  | .non => some (.codeNon cw.bf cw.rid cw.token cw.plen)
  | .ack => some (.codeAck cw.bf cw.rid cw.token cw.plen)
  | .rst => some (.codeRst cw.bf cw.rid cw.token cw.plen)
  | .back => some (.codeBack cw.bf cw.rid cw.token cw.plen)
  | .reserved => none

theorem decodeControlWord_eq_ok_iff {c : Config} {w : Word32} {i : Instr} : decodeControlWord c w = .ok i ↔
    rowOfClass (cwUnpack w) (codeClass c (cwUnpack w).code) = some i := by
  cases cls : codeClass c (cwUnpack w).code <;> simp [decodeControlWord, rowOfClass, cls]

/-- A row is no correlator command, its word is the control word, and it runs the front end on it (log 6). -/
theorem rowOfClass_eq_some {c : Config} {cw : ControlWord} {cls : CodeClass} {i : Instr}
    (row : rowOfClass cw cls = some i) (code : codeOfClass c cls = some cw.code) :
    i.isCorrelator = false ∧ encode c i = .controlWord (cwPack cw) ∧
      ∀ s : State, s.cfg = c → exec i s = receiveFrame cls cw s := by
  obtain ⟨v, bf, rid, token, plen⟩ := cw
  cases cls with
  | reserved => cases row
  | con | non | ack | rst | back =>
    cases row
    cases code
    exact ⟨rfl, rfl, fun s same => same ▸ rfl⟩

theorem rowOfClass_of_decodeControlWord {c : Config} {w : Word32} {i : Instr}
    (decoded : decodeControlWord c w = .ok i) : codeClass c (cwUnpack w).code ≠ .reserved ∧
    i.isCorrelator = false ∧ encode c i = .controlWord w ∧
      ∀ s : State, s.cfg = c → exec i s = receiveFrame (codeClass c (cwUnpack w).code) (cwUnpack w) s := by
  have row := decodeControlWord_eq_ok_iff.mp decoded
  have named : codeClass c (cwUnpack w).code ≠ .reserved := fun reserved => by
    rw [reserved] at row
    cases row
  have facts := rowOfClass_eq_some row (codeOfClass_codeClass named)
  rw [cwPack_cwUnpack] at facts
  exact ⟨named, facts⟩

/-- The word of a class's parameter decodes to the row of the class. -/
theorem decodeControlWord_cwPack {c : Config} (wf : c.Wf) {cw : ControlWord} {cls : CodeClass} {i : Instr}
    (code : codeOfClass c cls = some cw.code) (row : rowOfClass cw cls = some i) :
    decodeControlWord c (cwPack cw) = .ok i := by
  rw [decodeControlWord_eq_ok_iff, cwUnpack_cwPack, codeClass_codeOfClass wf code, row]

end Sys2Proof

namespace Sys2Proof.Proofs

open Machine

/-- Settles O1: a command is found at its opcode in the map, with its immediate; a control-word row at the class of its
code. -/
theorem decodeOfEncodeIsTheInstruction : Obligations.DecodeOfEncodeIsTheInstruction := by
  intro c i wf inConfig
  cases i with
  | crcUpdb imm8 | encRstp imm8 | camDel imm8 => exact decode_commandWord .ci inConfig rfl nofun
  | codeCon bf rid token plen => exact decodeControlWord_cwPack wf (cls := .con) rfl rfl
  | codeNon bf rid token plen => exact decodeControlWord_cwPack wf (cls := .non) rfl rfl
  | codeAck bf rid token plen => exact decodeControlWord_cwPack wf (cls := .ack) rfl rfl
  | codeRst bf rid token plen => exact decodeControlWord_cwPack wf (cls := .rst) rfl rfl
  | codeBack bf rid token plen => exact decodeControlWord_cwPack wf (cls := .back) rfl rfl
  | _ => exact decode_commandWord .c0 inConfig rfl fun _ => rfl

/-- Settles O2: a command word is put together again from its opcode and immediate, a control word from its fields. -/
theorem encodeOfDecodeIsTheWord : Obligations.EncodeOfDecodeIsTheWord := by
  intro c w i decoded
  cases w with
  | command w =>
    obtain ⟨-, -, corr, -⟩ := decodeCommand_eq_ok_iff.mp decoded
    exact ⟨corr, encode_of_decodeCommand decoded c⟩
  | controlWord w =>
    obtain ⟨-, notCorr, encoded, -⟩ := rowOfClass_of_decodeControlWord decoded
    exact ⟨fun corr => absurd corr (Bool.eq_false_iff.mp notCorr), encoded⟩

end Sys2Proof.Proofs
end

section
/-! What a step makes of a word, as a command word and as the control word `DEC_AUTO` fetches (30_encoding R106, R107,
R112; 41_frame R133; logs 1, 6, 10). -/

namespace Sys2Proof.Machine

variable {s : State} {i : Instr}

theorem withFetchWord_command (w : Word16) :
    s.withFetchWord 16 w.toNat = { s with pending := .cmd w :: s.pending } := by
  rw [State.withFetchWord, placeWord, if_pos (Nat.le_refl 16), BitVec.ofNat_toNat, BitVec.setWidth_eq]

theorem withFetchWord_controlWord (W : Word32) : s.withFetchWord 32 W.toNat =
    { s with mem := { s.mem with wire := tableDatagram W.toNat }, pending := .cmd 0x2200 :: s.pending } := by
  rw [State.withFetchWord, placeWord, if_neg (by decide)]
  rfl

/-- The datagram of a row's 32 bits has the row as its control word. -/
theorem decodeDatagram_tableDatagram (c : Config) (W : Word32) :
    decodeDatagram c (tableDatagram W.toNat) = decodeControlWord c W := by
  have word : BitVec.ofNat 32 W.toNat = W := by rw [BitVec.ofNat_toNat, BitVec.setWidth_eq]
  have enough : ¬(tableDatagram W.toNat).length < 4 := by
    rw [tableDatagram, List.length_append, be32_length]
    omega
  have head : headWord (tableDatagram W.toNat) = headWord (be32 W) := by
    rw [tableDatagram, word]
    rfl
  rw [decodeDatagram, if_neg enough, head, headWord_be32]

/-- `DEC_AUTO` and the row it fetches are the front end on the same control word. -/
theorem exec_decAuto_of_decodeDatagram (decoded : decodeDatagram s.cfg s.mem.wire = .ok i) :
    exec .decAuto s = exec i s := by
  unfold decodeDatagram at decoded
  split at decoded
  case isTrue => cases decoded
  case isFalse enough =>
    obtain ⟨named, -, -, runs⟩ := rowOfClass_of_decodeControlWord decoded
    rw [exec_decAuto_named (Nat.le_of_not_lt enough) rfl named, runs s rfl]

theorem step_withFetchWord_controlWord {W : Word32} (decoded : decodeControlWord s.cfg W = .ok i) :
    step (s.withFetchWord 32 W.toNat) =
      exec i { s with mem := { s.mem with wire := tableDatagram W.toNat }, reply := .none } := by
  rw [withFetchWord_controlWord, step_of_pending_cmd rfl (i := .decAuto) rfl]
  exact exec_decAuto_of_decodeDatagram ((decodeDatagram_tableDatagram s.cfg W).trans decoded)

/-- The opcodes of the correlator are those from 0x60 on (30_encoding R112). -/
theorem decodeCommand_correlatorAbsent {opc : Byte} (high : 0x60 ≤ opc.toNat) (imm8 : Byte) :
    ∃ r, decodeCommand false (opc ++ imm8) = .error r := by
  cases answer : decodeCommand false (opc ++ imm8) with
  | error r => exact ⟨r, rfl⟩
  | ok i =>
    obtain ⟨row, -, code, corr, -⟩ := exists_decodeCommand_eq_ok_iff.mp ⟨i, answer⟩
    rw [code, cmdOpc_append] at corr
    nomatch corr high

end Sys2Proof.Machine

namespace Sys2Proof.Proofs

open Machine

/-- Settles O4: `withFetchWord` puts the word in front of what already waits. -/
theorem stepRunsTheDecodedCommand : Obligations.StepRunsTheDecodedCommand := by
  intro s w i rest decoded
  refine ⟨step_cmd_ok decoded, ?_⟩
  rw [withFetchWord_command, step_cmd_ok decoded]

/-- Settles O5: the datagram `withFetchWord` puts into `WIRE` decodes to the row it was made from. -/
theorem decAutoRunsTheControlWord : Obligations.DecAutoRunsTheControlWord :=
  fun _ _ => ⟨exec_decAuto_of_decodeDatagram, fun _ => step_withFetchWord_controlWord⟩

/-- Settles O19: a control-word row is the front end on its own control word, by definition. -/
theorem controlWordRowsRunTheFrontEnd : Obligations.ControlWordRowsRunTheFrontEnd :=
  fun _ _ _ _ _ _ _ _ _ _ wire => ⟨runsAsFrontEnd_of_exec_eq wire rfl, runsAsFrontEnd_of_exec_eq wire rfl,
    runsAsFrontEnd_of_exec_eq wire rfl, runsAsFrontEnd_of_exec_eq wire rfl, runsAsFrontEnd_of_exec_eq wire rfl⟩

/-- Settles O44: the words by the decoder's test for the correlator, the meanings by their own. -/
theorem absentCorrelatorOpcodesAreReserved : Obligations.AbsentCorrelatorOpcodesAreReserved := by
  intro s imm8 rest absent
  refine ⟨fun opc row => ?word, fun i row => ?meaning⟩
  case word =>
    have high : ∀ opc ∈ [0x60#8, 0x61#8, 0x62#8, 0x63#8, 0x64#8], 0x60 ≤ opc.toNat := by decide
    obtain ⟨r, rejected⟩ := decodeCommand_correlatorAbsent (high opc row) imm8
    exact step_cmd_error (absent ▸ rejected)
  case meaning =>
    have areCorr : ∀ i ∈ [Instr.tokAlloc, .camIns, .camLook, .camTake, .camDel imm8], i.isCorrelator = true := by
      simp [Instr.isCorrelator]
    exact exec_correlatorAbsent (areCorr i row) absent

/-- Settles O6: the rows by evaluation, the immediate rows by `decode_commandWord`, for every immediate. -/
theorem sampleWordsDecode : Obligations.SampleWordsDecode := by
  refine ⟨by decide, by decide, fun hasCorr imm8 => ⟨decodeCommand_crcUpdb hasCorr imm8, ?encRstp, ?camDel⟩, ?samples⟩
  case encRstp =>
    exact decode_commandWord (c := { Config.default with hasCorr := hasCorr }) .ci nofun rfl nofun
  case camDel => exact decode_commandWord (c := Config.default) .ci (fun _ => rfl) rfl nofun
  case samples => decide +kernel

end Sys2Proof.Proofs
end

section
/-! Reset (10_state R51, 70_reset_and_hazards R230 to R232): the state it reaches, by either way. -/

namespace Sys2Proof.Machine

/-- A machine in its reset state stays in it through a reset. -/
theorem resetWith_resetState (c : Config) : (State.resetWith c).resetState = State.resetWith c := rfl

theorem resetWith_atReset (c : Config) : atReset c (State.resetWith c) := by
  rw [← resetWith_resetState]
  exact (State.resetWith c).resetState_atReset

variable {s : State} {rest : List Transaction}

theorem step_srst : step { s with pending := .cmd 0x0100 :: rest } =
    .next { s with pending := rest, reply := .none }.resetState :=
  (step_cmd_ok (i := .srst) rfl).trans (exec_srst _)

theorem step_reset : step { s with pending := .reset :: rest } =
    .next { s with pending := rest, reply := .none }.resetState := by
  rw [step_pending_cons, carryOut, portReset_eq_next]

end Sys2Proof.Machine

namespace Sys2Proof.Proofs

open Machine

/-- Settles O52: the table by `resetWith_atReset`, the model's own fields by evaluation. -/
theorem resetStateHoldsTheTable : Obligations.ResetStateHoldsTheTable :=
  fun c => ⟨resetWith_atReset c, rfl, rfl, rfl⟩

/-- Settles O53: both are `State.resetState`. -/
theorem srstAndResetReachTheSameState : Obligations.SrstAndResetReachTheSameState :=
  fun _ _ => ⟨_, step_srst, step_reset, State.resetState_atReset _, rfl⟩

end Sys2Proof.Proofs
end

section
/-! The mirror image (43_crc16 R156, R157): one iteration, and so one byte, of a reflected unit is the reflection of the
unreflected one's. -/

namespace Sys2Proof.Machine

/-- Two values are each other's reflection when each bit is its mirror bit. -/
theorem eq_reflect16_of_getLsbD {v w : Word16} (mirror : ∀ i < 16, v.getLsbD i = w.getLsbD (15 - i)) :
    v = reflect16 w :=
  BitVec.eq_of_getLsbD_eq fun i inside => (mirror i inside).trans (getLsbD_reflect16 w inside).symm

theorem reflect16_xor (v w : Word16) : reflect16 (v ^^^ w) = reflect16 v ^^^ reflect16 w := by
  refine (eq_reflect16_of_getLsbD fun i inside => ?_).symm
  rw [BitVec.getLsbD_xor, BitVec.getLsbD_xor, getLsbD_reflect16 v inside, getLsbD_reflect16 w inside]

theorem reflect16_shiftLeft_one (v : Word16) : reflect16 v >>> 1 = reflect16 (v <<< 1) := by
  refine eq_reflect16_of_getLsbD fun i inside => ?_
  rw [BitVec.getLsbD_ushiftRight, BitVec.getLsbD_shiftLeft]
  rcases Nat.lt_or_ge (1 + i) 16 with low | top
  · rw [getLsbD_reflect16 v low]
    have below : ¬15 - i < 1 := by omega
    have within : 15 - i < 16 := by omega
    have same : 15 - (1 + i) = 15 - i - 1 := by omega
    simp [below, within, same]
  · have last : i = 15 := by omega
    subst last
    simp

/-- A byte in the low half is the mirror image of the reversed byte in the high half. -/
theorem reflect16_highByte (b : Byte) : b.setWidth 16 = reflect16 (b.reverse.setWidth 16 <<< 8) := by
  refine eq_reflect16_of_getLsbD fun i inside => ?_
  rw [BitVec.getLsbD_setWidth, BitVec.getLsbD_shiftLeft, BitVec.getLsbD_setWidth, BitVec.getLsbD_reverse,
    BitVec.getMsbD_eq_getLsbD]
  rcases Nat.lt_or_ge i 8 with low | high
  · have notBelow : ¬15 - i < 8 := by omega
    have within : 15 - i < 16 ∧ 15 - i - 8 < 16 ∧ 15 - i - 8 < 8 := by omega
    have twice : 8 - 1 - (15 - i - 8) = i := by omega
    simp [inside, notBelow, within, twice]
  · have below : 15 - i < 8 := by omega
    simp [below, BitVec.getLsbD_of_ge b i high]

theorem crcShiftRight_reflect16 (poly a : Word16) :
    crcShiftRight poly (reflect16 a) = reflect16 (crcShiftLeft poly a) := by
  rw [crcShiftRight, crcShiftLeft, getLsbD_reflect16 a (by decide), apply_ite reflect16, reflect16_xor,
    reflect16_shiftLeft_one]

theorem repeatTimes_semiconj {α β : Type} {f : α → α} {g : β → β} {m : α → β} (step : ∀ a, g (m a) = m (f a)) (n : Nat)
    (a : α) : repeatTimes g n (m a) = m (repeatTimes f n a) := by
  rw [repeatTimes_eq_iterate, repeatTimes_eq_iterate]
  exact ((Function.Semiconj.iterate_right (f := m) (fun a => (step a).symm) n).eq a).symm

end Sys2Proof.Machine

namespace Sys2Proof.Proofs

open Machine

/-- Settles O28: the byte enters at the mirrored end, and each of the eight iterations is the mirror image of its
counterpart. -/
theorem reflectedChecksumIsTheMirrorImage : Obligations.ReflectedChecksumIsTheMirrorImage := by
  intro c acc b
  calc repeatTimes (crcShiftRight c.crcPoly) 8 (reflect16 acc ^^^ b.setWidth 16)
      = repeatTimes (crcShiftRight c.crcPoly) 8 (reflect16 (acc ^^^ (b.reverse.setWidth 16 <<< 8))) := by
        rw [reflect16_xor, ← reflect16_highByte]
    _ = reflect16 (repeatTimes (crcShiftLeft c.crcPoly) 8 (acc ^^^ (b.reverse.setWidth 16 <<< 8))) :=
        repeatTimes_semiconj (crcShiftRight_reflect16 c.crcPoly) 8 _

end Sys2Proof.Proofs
end

section
/-! How a command ends (00_scope R15): it fails and writes `STATUS` alone, or it is done and leaves its effect. -/

namespace Sys2Proof.Machine

/-- What the front end leaves of an accepted frame (41_frame R133): the three deliveries of `receiveFrame`. -/
def State.received (s : State) (cls : CodeClass) (cw : ControlWord) : State :=
  if cw.bf = 1 then
    (s.deliver cw (slice s.mem.wire 10 (cw.plen.toNat - 6)) .blockRx).setBlockHeader (bhUnpack (slice s.mem.wire 4 6))
  else if cls = .rst then
    (s.deliver cw (slice s.mem.wire 4 cw.plen.toNat) (routeOf cls)).setResetByte (byteAt s.mem.wire 4)
  else s.deliver cw (slice s.mem.wire 4 cw.plen.toNat) (routeOf cls)

/-- What a command that is done leaves, but for `STATUS`. `exec_cases` ties it to the meanings. -/
def effect (i : Instr) (s : State) : State :=
  let head := cwUnpack (headWord s.mem.wire)
  match i with
  | .nop => s
  | .srst => s.resetState
  | .encCw => s.setBuf .wire (be32 (cwPack s.controlWord))
  | .decCw => (s.setControlWord head).flagReserved head.code
  | .encFrame => s.setBuf .wire (be32 (cwPack s.controlWord) ++ slice s.mem.pay 0 s.fPlen.toNat)
  | .decFrame =>
    ((s.setControlWord head).setBuf .pay (slice s.mem.wire 4 head.plen.toNat)).flagReserved head.code
  | .decAuto => s.received (codeClass s.cfg head.code) head
  | .encBh => s.setBuf .wire (bhPack s.blockHeader)
  | .decBh => s.setBlockHeader (bhUnpack (slice s.mem.wire 0 6))
  | .encBframe => s.setBuf .wire
    (be32 (cwPack s.controlWord) ++ bhPack s.blockHeader ++ slice s.mem.pay 0 (s.fPlen.toNat - 6))
  | .decBframe =>
    (((s.setControlWord head).setBlockHeader (bhUnpack (slice s.mem.wire 4 6))).setBuf .pay
      (slice s.mem.wire 10 (head.plen.toNat - 6))).flagReserved head.code
  | .crcClr => { s with crcAcc := crcStart s.cfg }
  | .crcUpdb imm8 => { s with crcAcc := crcStep s.cfg s.crcAcc imm8 }
  | .crcUpdp => { s with crcAcc := crcFeed s.cfg s.crcAcc s.mem.pay }
  | .crcGet => { s with fCrc := crcFinal s.cfg s.crcAcc }
  | .crcChk => s.setFlag .crcok (decide (crcFinal s.cfg s.crcAcc = s.fCrc))
  | .encRstp imm8 => s.setBuf .pay [resetByte imm8]
  | .decRstp => s.setResetByte (byteAt s.mem.pay 0)
  | .encBackp => s.setBuf .pay (be16 s.fOffset)
  | .decBackp => { s with fOffset := u16 (byteAt s.mem.pay 0) (byteAt s.mem.pay 1) }
  | .tokAlloc => { s with fToken := s.tokCnt, tokCnt := s.tokCnt + 1 }
  | .camIns => s.firstFree.elim s fun k => { s.setEntry k s.newEntry with rSlot := BitVec.ofNat 8 k }
  | .camLook => s.afterLook s.answeringSlot s.drawChoice.freeCount
  | .camTake => s.afterTake s.answeringSlot s.drawChoice.freeCount
  | .camDel imm8 => (s.setFlag .hit (s.entry imm8.toNat).valid).clearSlot imm8.toNat
  | .codeCon bf rid token plen => s.received .con ⟨s.cfg.codeCon, bf, rid, token, plen⟩
  | .codeNon bf rid token plen => s.received .non ⟨s.cfg.codeNon, bf, rid, token, plen⟩
  | .codeAck bf rid token plen => s.received .ack ⟨s.cfg.codeAck, bf, rid, token, plen⟩
  | .codeRst bf rid token plen => s.received .rst ⟨s.cfg.codeRst, bf, rid, token, plen⟩
  | .codeBack bf rid token plen => s.received .back ⟨s.cfg.codeBack, bf, rid, token, plen⟩

/-- The outcome of a command issued in `s`: a failure, or `done` with the state `u`. -/
def EndsWith (s u : State) (o : StepOutcome) : Prop := (∃ st cause, st ≠ .ok ∧ o = fail s st cause) ∨ o = done u

section
variable {s u : State}

theorem endsWith_done : EndsWith s u (done u) := .inr rfl

theorem endsWith_fail {st : St} {cause : Cause} (failure : st ≠ .ok := by decide) : EndsWith s u (fail s st cause) :=
  .inl ⟨st, cause, failure, rfl⟩

theorem endsWith_ite {p : Prop} [Decidable p] {a b : StepOutcome} (yes : EndsWith s u a) (no : EndsWith s u b) :
    EndsWith s u (if p then a else b) := by
  split
  exacts [yes, no]

theorem endsWith_withCorrelator {body : StepOutcome} (present : s.cfg.hasCorr = true →
    EndsWith s u (withCorrelator s body)) : EndsWith s u (withCorrelator s body) := by
  cases corr : s.cfg.hasCorr with
  | true => exact present corr
  | false =>
    rw [withCorrelator_absent _ corr]
    exact endsWith_fail

theorem receiveFrame_endsWith {cls : CodeClass} {cw : ControlWord} :
    EndsWith s (s.received cls cw) (receiveFrame cls cw s) := by
  refine endsWith_ite endsWith_fail <| endsWith_ite endsWith_fail <| endsWith_ite endsWith_fail <| .inr ?_
  rw [State.received, apply_ite done, apply_ite done]

theorem camIns_endsWith (corr : s.cfg.hasCorr = true) : EndsWith s (effect .camIns s) (exec .camIns s) := by
  cases found : s.firstFree with
  | none => exact .inl ⟨.full, .none, by decide, exec_camIns_full corr found⟩
  | some k =>
    rw [effect, found]
    exact .inr (exec_camIns_stored corr found)

end

/-- Along the tests of each meaning, an outcome is a failure or `done` with the effect. -/
theorem exec_endsWith (i : Instr) (s : State) : EndsWith s (effect i s) (exec i s) := by
  cases i with
  | nop | srst | encBh | crcClr | crcUpdb imm8 | crcUpdp | crcGet | crcChk | encRstp imm8 | encBackp =>
    exact endsWith_done
  | encCw | decCw | decBh | decRstp | decBackp => exact endsWith_ite endsWith_fail endsWith_done
  | encFrame | decFrame => exact endsWith_ite endsWith_fail <| endsWith_ite endsWith_fail endsWith_done
  | decBframe =>
    exact endsWith_ite endsWith_fail <| endsWith_ite endsWith_fail <| endsWith_ite endsWith_fail endsWith_done
  | encBframe =>
    exact endsWith_ite endsWith_fail <| endsWith_ite endsWith_fail <| endsWith_ite endsWith_fail <|
      endsWith_ite endsWith_fail endsWith_done
  | decAuto => exact endsWith_ite endsWith_fail <| endsWith_ite endsWith_fail receiveFrame_endsWith
  | codeCon bf rid token plen => exact receiveFrame_endsWith (cls := .con)
  | codeNon bf rid token plen => exact receiveFrame_endsWith (cls := .non)
  | codeAck bf rid token plen => exact receiveFrame_endsWith (cls := .ack)
  | codeRst bf rid token plen => exact receiveFrame_endsWith (cls := .rst)
  | codeBack bf rid token plen => exact receiveFrame_endsWith (cls := .back)
  | tokAlloc => exact endsWith_withCorrelator fun corr => .inr (exec_tokAlloc corr)
  | camIns => exact endsWith_withCorrelator camIns_endsWith
  | camLook => exact endsWith_withCorrelator fun corr => .inr (exec_camLook corr)
  | camTake => exact endsWith_withCorrelator fun corr => .inr (exec_camTake corr)
  | camDel imm8 => exact endsWith_ite (endsWith_ite endsWith_fail endsWith_done) endsWith_fail

/-- What a command can do, in the form later proofs take it apart. -/
theorem exec_cases {i : Instr} {s t : State} (ran : exec i s = .next t) :
    (∃ st cause, st ≠ .ok ∧ t = s.setStatus st cause) ∨ t = (effect i s).setStatus .ok .none := by
  rcases exec_endsWith i s with ⟨st, cause, failure, failed⟩ | finished
  · exact .inl ⟨st, cause, failure, fail_eq_next.mp (failed.symm.trans ran)⟩
  · exact .inr (done_eq_next.mp (finished.symm.trans ran))

end Sys2Proof.Machine

namespace Sys2Proof.Proofs

open Machine

/-- Settles O46: a failure is `STATUS` written, and a command that is done has outcome class OK. -/
theorem aFailureChangesOnlyStatus : Obligations.AFailureChangesOnlyStatus := by
  intro i s t ran failed
  rcases exec_cases ran with ⟨st, cause, -, rfl⟩ | rfl
  · rfl
  · exact absurd rfl failed

end Sys2Proof.Proofs
end

section
/-! The frame of every instruction (10_state R35 to R47, 20_memory R64, R66): one rule per operation on the state, and the
effect of each instruction composed of them. -/

namespace Sys2Proof.Machine

/-- `t` differs from `s` only where the spec's tables let instruction `i` write. Its last fields hold by `rfl` wherever an
operation does not name the field they are about. -/
structure Frame (i : Instr) (s t : State) : Prop where
  registers : ∀ r ∉ mayWrite i, t.readReg r = s.readReg r
  flags : ∀ f ∉ mayWriteFlag i, flagOf t.flags f = flagOf s.flags f := by intros; rfl
  buffers : ∀ b ∉ mayReplace i, t.mem.content b = s.mem.content b := by intros; rfl
  table : mayWriteTable i = false → t.cam = s.cam := by intros; rfl
  choices : i ≠ .camLook → i ≠ .camTake → t.freeCount = s.freeCount := by intros; rfl
  config : t.cfg = s.cfg := by rfl
  waiting : t.pending = s.pending := by rfl
  answer : t.reply = s.reply := by rfl

section
variable {i : Instr} {s t u : State}

theorem Frame.trans (first : Frame i s t) (second : Frame i t u) : Frame i s u where
  registers r out := (second.registers r out).trans (first.registers r out)
  flags f out := (second.flags f out).trans (first.flags f out)
  buffers b out := (second.buffers b out).trans (first.buffers b out)
  table unnamed := (second.table unnamed).trans (first.table unnamed)
  choices notLook notTake := (second.choices notLook notTake).trans (first.choices notLook notTake)
  config := second.config.trans first.config
  waiting := second.waiting.trans first.waiting
  answer := second.answer.trans first.answer

/-! ### One rule per operation -/

theorem frame_setStatus {st : St} {cause : Cause} : Frame i s (s.setStatus st cause) where
  registers r out := by
    cases r with
    | status =>
      have everyRow : .status ∈ mayWrite i := by cases i <;> simp [mayWrite, decodeWrites, allRegs]
      exact absurd everyRow out
    | _ => rfl

theorem frame_setFlag {f : Flag} {v : Bool} (named : f ∈ mayWriteFlag i) (row : .flags ∈ mayWrite i) :
    Frame i s (s.setFlag f v) where
  registers r out := by
    cases r with
    | flags => exact absurd row out
    | _ => rfl
  flags g out := by
    rw [s.setFlag_flags, flagOf_withFlag, if_neg fun same : g = f => out (same ▸ named)]

/-- The register that shows a buffer's length (10_state R40, R41). -/
def lengthView : Buf → Reg
  | .wire => .wlen
  | .pay => .payn

theorem readReg_setBuf {b : Buf} {bytes : List Byte} {r : Reg} (other : r ≠ lengthView b) :
    (s.setBuf b bytes).readReg r = s.readReg r := by
  cases b with
  | wire =>
    cases r with
    | wlen => exact absurd rfl other
    | _ => rfl
  | pay =>
    cases r with
    | payn => exact absurd rfl other
    | _ => rfl

theorem frame_setBuf {b : Buf} {bytes : List Byte} (named : b ∈ mayReplace i) (row : lengthView b ∈ mayWrite i) :
    Frame i s (s.setBuf b bytes) where
  registers r out := readReg_setBuf fun same => out (same ▸ row)
  buffers d out := s.mem.content_replace_other bytes fun same => out (same ▸ named)

theorem frame_setControlWord {cw : ControlWord}
    (row : [.fCode, .fBf, .fRid, .fToken, .fPlen] ⊆ mayWrite i) : Frame i s (s.setControlWord cw) where
  registers r out := by
    cases r with
    | fCode | fBf | fRid | fToken | fPlen => exact absurd (row (by decide)) out
    | _ => rfl

theorem frame_setBlockHeader {h : BlockHeader} (row : [.fCrc, .fTotal, .fOffset] ⊆ mayWrite i) :
    Frame i s (s.setBlockHeader h) where
  registers r out := by
    cases r with
    | fCrc | fTotal | fOffset => exact absurd (row (by decide)) out
    | _ => rfl

theorem frame_setRoute {route : BitVec 3} (row : .rRoute ∈ mayWrite i) : Frame i s { s with rRoute := route } where
  registers r out := by
    cases r with
    | rRoute => exact absurd row out
    | _ => rfl

theorem frame_setError {err : BitVec 7} (row : .rErr ∈ mayWrite i) : Frame i s { s with rErr := err } where
  registers r out := by
    cases r with
    | rErr => exact absurd row out
    | _ => rfl

theorem frame_setResetByte {b : Byte} (named : .errp ∈ mayWriteFlag i) (flags : .flags ∈ mayWrite i)
    (error : .rErr ∈ mayWrite i) : Frame i s (s.setResetByte b) :=
  (frame_setFlag named flags).trans (frame_setError error)

theorem frame_setCrcAcc {acc : Word16} (row : .crcAcc ∈ mayWrite i) : Frame i s { s with crcAcc := acc } where
  registers r out := by
    cases r with
    | crcAcc => exact absurd row out
    | _ => rfl

/-! ### The effects that are no composition of these -/

theorem frame_crcGet : Frame .crcGet s (effect .crcGet s) where
  registers r out := by
    cases r with
    | fCrc => exact absurd (by decide) out
    | _ => rfl

theorem frame_decBackp : Frame .decBackp s (effect .decBackp s) where
  registers r out := by
    cases r with
    | fOffset => exact absurd (by decide) out
    | _ => rfl

theorem frame_tokAlloc : Frame .tokAlloc s (effect .tokAlloc s) where
  registers r out := by
    cases r with
    | fToken | tokCnt => exact absurd (by decide) out
    | _ => rfl

theorem frame_camIns : Frame .camIns s (effect .camIns s) := by
  rw [effect]
  cases s.firstFree with
  | none => exact { registers := fun _ _ => rfl }
  | some k =>
    refine { registers := fun r out => ?_, table := nofun }
    cases r with
    | rSlot => exact absurd (by decide) out
    | _ => rfl

/-- A lookup draws a free choice, so it alone is let off the frame of the model's own counter (log 5). -/
theorem frame_afterLook {slot : Option Nat} {n : Nat} (lookup : i = .camLook ∨ i = .camTake) :
    Frame i s (s.afterLook slot n) := by
  have named : .hit ∈ mayWriteFlag i := by rcases lookup with rfl | rfl <;> decide
  have rows : [.status, .flags, .rTag, .rSlot] ⊆ mayWrite i := by rcases lookup with rfl | rfl <;> decide
  refine { registers := fun r out => ?_, flags := fun g out => ?_, choices := fun notLook notTake => ?_ }
  · cases r with
    | status | flags | rTag | rSlot => exact absurd (rows (by decide)) out
    | _ => rfl
  · rw [State.afterLook, flagOf_withFlag, if_neg fun same : g = .hit => out (same ▸ named)]
  · exact absurd lookup (not_or.mpr ⟨notLook, notTake⟩)

theorem frame_setCam {cam : List CamEntry} (named : mayWriteTable i = true) : Frame i s { s with cam := cam } where
  registers r _ := by cases r <;> rfl
  table unnamed := absurd named (Bool.eq_false_iff.mp unnamed)

theorem frame_srst : Frame .srst s s.resetState where
  registers r out := absurd (mem_allRegs r) out
  flags f out := absurd (by cases f <;> decide) out
  buffers b out := absurd (by cases b <;> decide) out
  table := nofun

/-- The front end, for a row of the tables that lets it write what it delivers (10_state R35). -/
theorem frame_received {cls : CodeClass} {cw : ControlWord} (rows : decodeWrites ⊆ mayWrite i)
    (rsvd : .rsvd ∈ mayWriteFlag i) (pay : .pay ∈ mayReplace i)
    (rst : cls = .rst → .errp ∈ mayWriteFlag i ∧ .rErr ∈ mayWrite i) : Frame i s (s.received cls cw) := by
  have delivered (payload : List Byte) (route : Route) : Frame i s (s.deliver cw payload route) :=
    (((frame_setControlWord fun r field => rows (by revert r; decide)).trans
      (frame_setBuf pay (rows (by decide)))).trans (frame_setFlag rsvd (rows (by decide)))).trans
      (frame_setRoute (rows (by decide)))
  unfold State.received
  split
  · exact (delivered _ _).trans (frame_setBlockHeader fun r field => rows (by revert r; decide))
  split
  · next isRst =>
    obtain ⟨errp, rErr⟩ := rst isRst
    exact (delivered _ _).trans (frame_setResetByte errp (rows (by decide)) rErr)
  · exact delivered _ _

end

theorem effect_frame (i : Instr) (s : State) : Frame i s (effect i s) := by
  cases i with
  | nop => exact { registers := fun _ _ => rfl }
  | srst => exact frame_srst
  | encCw | encFrame | encBh | encBframe => exact frame_setBuf (by decide) (by decide)
  | encRstp imm8 | encBackp => exact frame_setBuf List.mem_cons_self (by simp [mayWrite, lengthView])
  | decCw => exact (frame_setControlWord (by decide)).trans (frame_setFlag (by decide) (by decide))
  | decFrame =>
    exact ((frame_setControlWord (by decide)).trans (frame_setBuf (by decide) (by decide))).trans
      (frame_setFlag (by decide) (by decide))
  | decBh => exact frame_setBlockHeader (by decide)
  | decBframe =>
    exact (((frame_setControlWord (by decide)).trans (frame_setBlockHeader (by decide))).trans
      (frame_setBuf (by decide) (by decide))).trans (frame_setFlag (by decide) (by decide))
  | crcClr | crcUpdb imm8 | crcUpdp => exact frame_setCrcAcc (by simp [mayWrite])
  | crcGet => exact frame_crcGet
  | crcChk => exact frame_setFlag (by decide) (by decide)
  | decRstp => exact frame_setResetByte (by decide) (by decide) (by decide)
  | decBackp => exact frame_decBackp
  | tokAlloc => exact frame_tokAlloc
  | camIns => exact frame_camIns
  | camLook => exact frame_afterLook (.inl rfl)
  | camTake => exact (frame_afterLook (.inr rfl)).trans (frame_setCam rfl)
  | camDel imm8 => exact (frame_setFlag List.mem_cons_self (by simp [mayWrite])).trans (frame_setCam rfl)
  | decAuto => exact frame_received (by decide) (by decide) (by decide) fun _ => by decide
  | codeCon bf rid token plen | codeNon bf rid token plen | codeAck bf rid token plen | codeBack bf rid token plen =>
    exact frame_received (List.Subset.refl _) List.mem_cons_self List.mem_cons_self nofun
  | codeRst bf rid token plen =>
    exact frame_received (List.subset_cons_self _ _) List.mem_cons_self List.mem_cons_self
      fun _ => by simp [mayWriteFlag, mayWrite]

/-- Whatever its outcome, an instruction stays inside its frame. -/
theorem exec_frame {i : Instr} {s t : State} (ran : exec i s = .next t) : Frame i s t := by
  rcases exec_cases ran with ⟨st, cause, -, rfl⟩ | rfl
  · exact frame_setStatus
  · exact (effect_frame i s).trans frame_setStatus

end Sys2Proof.Machine

namespace Sys2Proof.Proofs

open Machine

/-- Settles O48: the frame, but for its flags and buffers. -/
theorem registersOutsideTheRowAreUnchanged : Obligations.RegistersOutsideTheRowAreUnchanged := by
  intro i s t ran
  have frame := exec_frame ran
  exact ⟨frame.registers, frame.table, frame.config, frame.waiting, frame.answer, frame.choices⟩

/-- Settles O49: a byte is read from its buffer's content, which the frame keeps; a failure keeps the whole memory. -/
theorem buffersOutsideTheTableAreUnchanged : Obligations.BuffersOutsideTheTableAreUnchanged := by
  refine ⟨fun _ _ => ⟨rfl, rfl⟩, fun i s t ran => ⟨fun b a out => ?_, fun failed b a => ?_⟩⟩
  · rw [Memory.byte, (exec_frame ran).buffers b out, Memory.byte]
  · rw [aFailureChangesOnlyStatus i s t ran failed]

/-- Settles O50: a flag's read after a write, and the frame. -/
theorem flagsKeepTheirValuesOtherwise : Obligations.FlagsKeepTheirValuesOtherwise :=
  ⟨⟨rfl, rfl, rfl, rfl⟩, fun _ _ => rfl, flagOf_withFlag, fun _ _ _ f ran => (exec_frame ran).flags f⟩

end Sys2Proof.Proofs
end

section
/-! The port over all six transactions (10_state R21, R23): what a register write does, when a transaction is carried out,
and what none of them touches. -/

namespace Sys2Proof.Machine

section
variable {s t : State} {r q : Reg} {v : Nat}

/-! ### Register writes -/

/-- A value of the register's width is held whole. -/
theorem readReg_writeReg_same (writable : regWritable r = true) (fits : v < 2 ^ regWidth s.cfg r) :
    (s.writeReg r v).readReg r = v := by
  cases r with
  | kProto | kPipe | kAddr | kTag => rfl
  | fCode | fBf | fRid | fToken | fPlen | fCrc | fTotal | fOffset | crcAcc | kUseCode => exact Nat.mod_eq_of_lt fits
  | _ => cases writable

/-- Each register is a field of its own: of the pairs of registers only the equal ones meet. -/
theorem readReg_writeReg_other (different : q ≠ r) : (s.writeReg r v).readReg q = s.readReg q := by
  cases r <;> cases q <;> first | rfl | exact absurd rfl different

/-- A register write is not seen but in the registers. -/
theorem writeReg_keeps (s : State) (r : Reg) (v : Nat) : (s.writeReg r v).mem = s.mem ∧ (s.writeReg r v).cam = s.cam ∧
    (s.writeReg r v).cfg = s.cfg ∧ (s.writeReg r v).pending = s.pending ∧ (s.writeReg r v).reply = s.reply ∧
    (s.writeReg r v).freeCount = s.freeCount := by
  cases r <;> exact ⟨rfl, rfl, rfl, rfl, rfl, rfl⟩

theorem step_regWrite {rest : List Transaction} (present : regIsCorrelator r = true → s.cfg.hasCorr = true)
    (writable : regWritable r = true) (fits : v < 2 ^ regWidth s.cfg r) :
    step { s with pending := .regWrite (regNumber r) v :: rest } =
      .next (State.writeReg { s with pending := rest, reply := .none } r v) := by
  rw [step_pending_cons, carryOut, portRegWrite_eq_next]
  exact ⟨r, regOfNumber_regNumber r, present, writable, fits, rfl⟩

/-! ### When a transaction is carried out -/

/-- DFC has no fault (60_exceptions R216), so what does not go on is refused. -/
theorem next_or_refused (o : StepOutcome) : (∃ t, o = .next t) ∨ ∃ r, o = .refused r := by
  cases o with
  | next t => exact .inl ⟨t, rfl⟩
  | refused r => exact .inr ⟨r, rfl⟩
  | fault r => nomatch r

theorem wf_regRead_iff {c : Config} {n : Nat} : Transaction.wf c (.regRead n) = true ↔
    ∃ r, regOfNumber n = some r ∧ (regIsCorrelator r = true → c.hasCorr = true) := by
  simp only [Transaction.wf, regPresent_eq_true_iff, regOfNumber_eq_some_iff]

theorem wf_regWrite_iff {c : Config} {n : Nat} : Transaction.wf c (.regWrite n v) = true ↔
    ∃ r, regOfNumber n = some r ∧ (regIsCorrelator r = true → c.hasCorr = true) ∧ regWritable r = true ∧
      v < 2 ^ regWidth c r := by
  rw [Transaction.wf]
  cases regOfNumber n with
  | none => simp
  | some r => cases hr : regIsCorrelator r <;> simp [hr, and_assoc]

/-- The interface of 10_state R23: a transaction is carried out exactly when it is inside. -/
theorem carryOut_eq_next_iff {tr : Transaction} : (∃ t, carryOut tr s = .next t) ↔ tr.wf s.cfg = true := by
  cases tr with
  | regRead n => simp only [carryOut, portRegRead_eq_next, wf_regRead_iff, exists_comm (α := State), exists_and_left,
      exists_eq, and_true]
  | regWrite n v => simp only [carryOut, portRegWrite_eq_next, wf_regWrite_iff, exists_comm (α := State),
      exists_and_left, exists_eq, and_true]
  | load b bytes => simp only [carryOut, portLoad_eq_next, exists_and_left, exists_eq, and_true, Transaction.wf,
      decide_eq_true_iff]
  | read b => exact iff_of_true ⟨_, rfl⟩ rfl
  | reset => exact iff_of_true ⟨_, rfl⟩ rfl
  | cmd w =>
    refine iff_of_true ?_ rfl
    rw [carryOut]
    split
    · next i _ =>
      obtain ⟨t, ran, -⟩ := exec_endsListed i s
      exact ⟨t, ran⟩
    · exact ⟨_, rfl⟩

/-! ### What no transaction touches -/

/-- No transaction changes the configuration (70_reset R234) or the transactions that wait behind it (log 1). -/
theorem carryOut_keeps {tr : Transaction} (ran : carryOut tr s = .next t) : t.cfg = s.cfg ∧ t.pending = s.pending := by
  cases tr with
  | regRead n =>
    obtain ⟨-, -, -, rfl⟩ := portRegRead_eq_next.mp ran
    exact ⟨rfl, rfl⟩
  | regWrite n v =>
    obtain ⟨r, -, -, -, -, rfl⟩ := portRegWrite_eq_next.mp ran
    obtain ⟨-, -, cfg, pending, -⟩ := writeReg_keeps s r v
    exact ⟨cfg, pending⟩
  | load b bytes =>
    obtain ⟨-, rfl⟩ := portLoad_eq_next.mp ran
    exact ⟨rfl, rfl⟩
  | read b =>
    cases portRead_eq_next.mp ran
    exact ⟨rfl, rfl⟩
  | reset =>
    cases portReset_eq_next.mp ran
    exact ⟨rfl, rfl⟩
  | cmd w =>
    rw [carryOut] at ran
    split at ran
    · exact ⟨(exec_frame ran).config, (exec_frame ran).waiting⟩
    · cases reservedEncoding_eq_next.mp ran
      exact ⟨rfl, rfl⟩

theorem step_keeps (ran : step s = .next t) : t.cfg = s.cfg ∧ t.pending = s.pending.tail := by
  rcases step_cases ran with ⟨waiting, held⟩ | ⟨tr, rest, waiting, carried⟩
  · cases held
    exact ⟨rfl, by rw [waiting, List.tail_nil]⟩
  · rw [waiting]
    exact carryOut_keeps carried

end

end Sys2Proof.Machine

namespace Sys2Proof.Proofs

open Machine

/-- Settles O54: inside the interface a transaction goes on; outside it does not, so it is refused. -/
theorem portRefusesExactlyWhatIsOutside : Obligations.PortRefusesExactlyWhatIsOutside := by
  intro s tr rest
  rw [step_pending_cons]
  constructor
  · intro inside
    obtain ⟨t, ran⟩ := carryOut_eq_next_iff (s := { s with pending := rest, reply := .none }).mpr inside
    exact ⟨t, ran, (carryOut_keeps ran).2⟩
  · intro outside
    refine (next_or_refused _).resolve_left fun goesOn => ?_
    have inside := carryOut_eq_next_iff.mp goesOn
    cases outside.symm.trans inside

/-- Settles O57: the rules of a register write, on the state the step carries it out in. -/
theorem regWriteIsReadBackAndChangesNothingElse : Obligations.RegWriteIsReadBackAndChangesNothingElse := by
  intro s r v rest writable present fits
  obtain ⟨mem, cam, cfg, pending, reply, freeCount⟩ := writeReg_keeps { s with pending := rest, reply := .none } r v
  refine ⟨_, step_regWrite present writable fits, readReg_writeReg_same writable fits, fun q different => ?_,
    fun b a => ?_, cam, cfg, pending, reply, freeCount⟩
  · rw [readReg_writeReg_other different, State.readReg_withPort]
  · rw [mem]

/-- Settles O58: a step takes the first waiting transaction, or holds the state. -/
theorem transactionsInOrderConfigurationFixed : Obligations.TransactionsInOrderConfigurationFixed :=
  fun _ => ⟨fun _ => step_keeps, step_nil⟩

end Sys2Proof.Proofs
end

section
/-! Idempotency (20_memory R72): a codec command reads nothing that it writes, so issued again it takes the same outcome and
writes what is already there. -/

namespace Sys2Proof.Machine

theorem ensures_dite {P : State → Prop} {p : Prop} [Decidable p] {a b : StepOutcome} (yes : p → Ensures P a)
    (no : ¬p → Ensures P b) : Ensures P (if p then a else b) := by
  split
  · next holds => exact yes holds
  · next fails => exact no fails

/-! ### Writes of the value already there -/

/-- The four flags are all of `FLAGS` (10_state R37). -/
theorem flags_ext {a b : BitVec 4} (same : ∀ f, flagOf a f = flagOf b f) : a = b := by
  apply BitVec.eq_of_getLsbD_eq
  intro i inside
  interval_cases i
  exacts [same .crcok, same .rsvd, same .errp, same .hit]

theorem withFlag_eq_self {flags : BitVec 4} {f : Flag} {v : Bool} (reads : flagOf flags f = v) :
    withFlag flags f v = flags := by
  refine flags_ext fun g => ?_
  rw [flagOf_withFlag]
  split
  · next same => rw [same, reads]
  · rfl

theorem flagOf_withFlag_same (flags : BitVec 4) (f : Flag) (v : Bool) : flagOf (withFlag flags f v) f = v := by
  rw [flagOf_withFlag, if_pos rfl]

section
variable {s t : State} {cls : CodeClass} {cw : ControlWord}

theorem State.setFlag_eq_self {f : Flag} {v : Bool} (reads : flagOf t.flags f = v) : t.setFlag f v = t := by
  rw [State.setFlag, withFlag_eq_self reads]

theorem State.setResetByte_eq_self {b : Byte} (errp : flagOf t.flags .errp = resetMarker b)
    (err : t.rErr = resetError b) : t.setResetByte b = t := by
  rw [State.setResetByte, State.setFlag_eq_self errp, ← err]

theorem State.deliver_eq_self {payload : List Byte} {route : Route} (fields : t.controlWord = cw)
    (pay : t.mem.pay = payload) (rsvd : flagOf t.flags .rsvd = false) (routed : t.rRoute = routeBits route) :
    t.deliver cw payload route = t := by
  subst fields pay
  have rewritten : (t.setControlWord t.controlWord).setBuf .pay t.mem.pay = t := rfl
  rw [State.deliver, rewritten, State.setFlag_eq_self rsvd, ← routed]

theorem State.received_wire : (s.received cls cw).mem.wire = s.mem.wire := by
  unfold State.received
  split_ifs <;> rfl

/-- What the front end has delivered from a datagram it delivers again. -/
theorem State.received_received : ((s.received cls cw).setStatus .ok .none).received cls cw =
    (s.received cls cw).setStatus .ok .none := by
  unfold State.received
  split_ifs with block rst
  · refine congrArg (State.setBlockHeader · _) (State.deliver_eq_self rfl rfl ?_ rfl)
    exact flagOf_withFlag_same _ _ _
  · have rsvd : flagOf (withFlag (withFlag s.flags .rsvd false) .errp (resetMarker (byteAt s.mem.wire 4))) .rsvd =
        false := by simp [flagOf_withFlag]
    refine (congrArg (State.setResetByte · _) (State.deliver_eq_self rfl rfl rsvd rfl)).trans
      (State.setResetByte_eq_self ?_ rfl)
    exact flagOf_withFlag_same _ _ _
  · refine State.deliver_eq_self rfl rfl ?_ rfl
    exact flagOf_withFlag_same _ _ _

/-- A command whose writes are all there already is done in the same state. -/
theorem done_again {u written : State} (same : written = u.setStatus .ok .none) :
    done written = .next (u.setStatus .ok .none) := by
  rw [same]
  rfl

/-! ### The commands -/

theorem receiveFrame_eq_received (rstOk : ¬(cls = .rst ∧ cw.plen ≠ 1)) (room : ¬(cw.bf = 1 ∧ cw.plen.toNat < 6))
    (fits : ¬s.mem.wire.length < 4 + cw.plen.toNat) : receiveFrame cls cw s = done (s.received cls cw) := by
  rw [receiveFrame, if_neg rstOk, if_neg room, if_neg fits, State.received, apply_ite done, apply_ite done]

theorem receiveFrame_repeats : Ensures (fun t => receiveFrame cls cw t = .next t) (receiveFrame cls cw s) := by
  refine ensures_dite (fun rstLen => ensures_fail (if_pos rstLen)) fun rstOk => ?_
  refine ensures_dite (fun nofit => ensures_fail ((if_neg rstOk).trans (if_pos nofit))) fun room => ?_
  refine ensures_dite (fun short => ensures_fail ((if_neg rstOk).trans ((if_neg room).trans (if_pos short))))
    fun fits => ?_
  have wireKept : ¬((s.received cls cw).setStatus .ok .none).mem.wire.length < 4 + cw.plen.toNat := by
    rwa [State.setStatus_mem, State.received_wire]
  rw [← apply_ite done, ← apply_ite done]
  change Ensures _ (done (s.received cls cw))
  exact ensures_done ((receiveFrame_eq_received rstOk room wireKept).trans (done_again State.received_received))

/-- `i`, issued again in a state it has left, leaves that state. -/
def Repeats (i : Instr) (s : State) : Prop := Ensures (fun t => exec i t = .next t) (exec i s)

theorem encFrame_repeats : Repeats .encFrame s := by
  refine ensures_dite (fun reserved => ensures_fail (if_pos reserved)) fun named => ?_
  refine ensures_dite (fun short => ensures_fail ((if_neg named).trans (if_pos short))) fun enough => ?_
  exact ensures_done ((if_neg named).trans (if_neg enough))

theorem encBframe_repeats : Repeats .encBframe s := by
  refine ensures_dite (fun reserved => ensures_fail (if_pos reserved)) fun named => ?_
  refine ensures_dite (fun plain => ensures_fail ((if_neg named).trans (if_pos plain))) fun block => ?_
  refine ensures_dite (fun nofit => ensures_fail ((if_neg named).trans ((if_neg block).trans (if_pos nofit))))
    fun room => ?_
  refine ensures_dite (fun short => ensures_fail
    ((if_neg named).trans ((if_neg block).trans ((if_neg room).trans (if_pos short))))) fun enough => ?_
  exact ensures_done ((if_neg named).trans ((if_neg block).trans ((if_neg room).trans (if_neg enough))))

theorem decCw_repeats : Repeats .decCw s := by
  refine ensures_dite (fun short => ensures_fail (if_pos short)) fun enough => ensures_done ?_
  refine (if_neg enough).trans (done_again (State.setFlag_eq_self ?_))
  exact flagOf_withFlag_same _ _ _

theorem decFrame_repeats : Repeats .decFrame s := by
  refine ensures_dite (fun none => ensures_fail (if_pos none)) fun enough => ?_
  refine ensures_dite (fun short => ensures_fail ((if_neg enough).trans (if_pos short))) fun fits => ensures_done ?_
  refine (if_neg enough).trans ((if_neg fits).trans (done_again (State.setFlag_eq_self ?_)))
  exact flagOf_withFlag_same _ _ _

theorem decBframe_repeats : Repeats .decBframe s := by
  refine ensures_dite (fun none => ensures_fail (if_pos none)) fun enough => ?_
  refine ensures_dite (fun nofit => ensures_fail ((if_neg enough).trans (if_pos nofit))) fun room => ?_
  refine ensures_dite (fun short => ensures_fail ((if_neg enough).trans ((if_neg room).trans (if_pos short))))
    fun fits => ensures_done ?_
  refine (if_neg enough).trans ((if_neg room).trans ((if_neg fits).trans (done_again (State.setFlag_eq_self ?_))))
  exact flagOf_withFlag_same _ _ _

/-- `WIRE` and the configuration are kept, so the same control word is found and classified. -/
theorem decAuto_repeats : Repeats .decAuto s := by
  intro t ran
  have wire : t.mem.wire = s.mem.wire := (exec_frame ran).buffers .wire (by decide)
  have config := (exec_frame ran).config
  rcases Nat.lt_or_ge s.mem.wire.length 4 with short | enough
  · cases (exec_decAuto_noControlWord short).symm.trans ran
    exact exec_decAuto_noControlWord short
  by_cases named : codeClass s.cfg (cwUnpack (headWord s.mem.wire)).code = .reserved
  · cases (exec_decAuto_reserved enough rfl named).symm.trans ran
    exact exec_decAuto_reserved enough rfl named
  · rw [exec_decAuto_named enough rfl named] at ran
    rw [← wire] at enough
    rw [← config, ← wire] at named ran
    rw [exec_decAuto_named enough rfl named]
    exact receiveFrame_repeats t ran

theorem decRstp_repeats : Repeats .decRstp s := by
  refine ensures_dite (fun wrong => ensures_fail (if_pos wrong)) fun one => ensures_done ?_
  refine (if_neg one).trans (done_again (State.setResetByte_eq_self ?_ rfl))
  exact flagOf_withFlag_same _ _ _

theorem crcChk_repeats : Repeats .crcChk s := by
  refine ensures_done (done_again (State.setFlag_eq_self ?_))
  exact flagOf_withFlag_same _ _ _

end

theorem exec_repeats {i : Instr} (codec : idempotentCodec i = true) (s : State) : Repeats i s := by
  cases i with
  | encBh | crcClr | crcGet | encRstp imm8 | encBackp => exact ensures_done rfl
  | encCw | decBh | decBackp =>
    exact ensures_dite (fun rejected => ensures_fail (if_pos rejected)) fun passed => ensures_done (if_neg passed)
  | encFrame => exact encFrame_repeats
  | encBframe => exact encBframe_repeats
  | decCw => exact decCw_repeats
  | decFrame => exact decFrame_repeats
  | decBframe => exact decBframe_repeats
  | decAuto => exact decAuto_repeats
  | decRstp => exact decRstp_repeats
  | crcChk => exact crcChk_repeats
  | _ => cases codec

end Sys2Proof.Machine

namespace Sys2Proof.Proofs

open Machine

/-- Settles O51: each codec command repeats. -/
theorem codecCommandsAreIdempotent : Obligations.CodecCommandsAreIdempotent :=
  fun _ s t codec ran => exec_repeats codec s t ran

end Sys2Proof.Proofs
end

section
/-! The machine's invariant (`StateWf`): it holds after reset, one rule per operation on the state keeps it, and so does
every step. -/

namespace Sys2Proof

open Machine

/-- The zeros of an empty slot are of every width. -/
theorem entryFits_empty (c : Config) : entryFits c CamEntry.empty :=
  ⟨Nat.two_pow_pos _, Nat.two_pow_pos _, Nat.two_pow_pos _, Nat.two_pow_pos _, fun _ => rfl⟩

theorem resetWith_wf {c : Config} (wf : c.Wf) : StateWf (State.resetWith c) where
  config := wf
  memory := Memory.wf_resetWith c
  status := List.mem_cons_self
  route := Nat.zero_le 5
  tableSize := List.length_replicate
  tableFits e member := List.eq_of_mem_replicate member ▸ entryFits_empty c
  protoFits := Nat.two_pow_pos _
  pipeFits := Nat.two_pow_pos _
  addrFits := Nat.two_pow_pos _
  keyTagFits := Nat.two_pow_pos _
  foundTagFits := Nat.two_pow_pos _
  slotFits := by
    obtain ⟨-, -, -, depth, -⟩ := wf
    exact depth

/-- The destinations of 41_frame R134 are numbered 0 to 5. -/
theorem routeBits_le (route : Route) : (routeBits route).toNat ≤ 5 := by
  cases route <;> decide

/-- No 8-bit length announces more than the largest payload (00_scope R7). -/
theorem toNat_le_plenMax (plen : BitVec 8) : plen.toNat ≤ plenMax := Nat.le_of_lt_succ plen.isLt

section
variable {s : State} (wf : StateWf s)
include wf

/-! ### What the invariant says of the values a command uses -/

/-- Bytes an 8-bit length announces fit `PAY` (00_scope R8). -/
theorem StateWf.slice_fits_pay (bytes : List Byte) (a : Nat) {n : Nat} {plen : BitVec 8} (announced : n ≤ plen.toNat) :
    (slice bytes a n).length ≤ s.cfg.payCap := by
  obtain ⟨-, payCap, -⟩ := wf.config
  exact ((slice_length_le bytes a n).trans announced).trans ((toNat_le_plenMax plen).trans payCap)

/-- A control word and a payload of a frame fit `WIRE`. -/
theorem StateWf.datagram_fits_wire {head payload : List Byte} (four : head.length = 4)
    (fits : payload.length ≤ plenMax) : (head ++ payload).length ≤ s.cfg.wireCap := by
  obtain ⟨wireCap, -⟩ := wf.config
  rw [List.length_append, four]
  exact (Nat.add_le_add_left fits 4).trans wireCap

/-- Also past the end of the table, where the empty entry is read. -/
theorem StateWf.entry_fits (k : Nat) : entryFits s.cfg (s.entry k) := by
  rcases s.entry_mem_or_empty k with member | empty
  · exact wf.tableFits _ member
  · rw [empty]
    exact entryFits_empty s.cfg

/-- The current key and `K_TAG` are of their widths, and a key without its code has code 0 (10_state R49). -/
theorem StateWf.newEntry_fits : entryFits s.cfg s.newEntry := by
  refine ⟨wf.protoFits, wf.pipeFits, wf.addrFits, wf.keyTagFits, fun unused => if_neg ?_⟩
  have zero : s.kUseCode = 0 := unused
  rw [zero]
  decide

/-! ### One rule per operation -/

theorem StateWf.setStatus {st : St} {cause : Cause} (listed : statusByte st cause ∈ statusValues := by decide) :
    StateWf (s.setStatus st cause) := { wf with status := listed }

theorem StateWf.setFlag {f : Flag} {v : Bool} : StateWf (s.setFlag f v) := { wf with }

theorem StateWf.setControlWord {cw : ControlWord} : StateWf (s.setControlWord cw) := { wf with }

theorem StateWf.setBlockHeader {h : BlockHeader} : StateWf (s.setBlockHeader h) := { wf with }

theorem StateWf.setResetByte {b : Byte} : StateWf (s.setResetByte b) := { wf with }

theorem StateWf.setBuf {b : Buf} {bytes : List Byte} (fits : bytes.length ≤ bufCap s.cfg b) :
    StateWf (s.setBuf b bytes) := { wf with memory := Memory.wf_replace s.cfg s.mem b bytes wf.memory fits }

theorem StateWf.setRoute (route : Route) : StateWf { s with rRoute := routeBits route } :=
  { wf with route := routeBits_le route }

theorem StateWf.setEntry {k : Nat} {e : CamEntry} (fits : entryFits s.cfg e) : StateWf (s.setEntry k e) :=
  { wf with
    tableSize := List.length_set.trans wf.tableSize
    tableFits := fun d member => (List.mem_or_eq_of_mem_set member).elim (wf.tableFits d) fun same => same ▸ fits }

theorem StateWf.clearSlot (k : Nat) : StateWf (s.clearSlot k) := wf.setEntry (wf.entry_fits k)

/-- A slot number below the depth, kept in 8 bits, is below the depth. -/
theorem StateWf.setSlot {k : Nat} (inside : k < s.cfg.camDepth) : StateWf { s with rSlot := BitVec.ofNat 8 k } :=
  { wf with slotFits := Nat.lt_of_le_of_lt (Nat.mod_le k _) inside }

theorem StateWf.setFoundTag (k : Nat) : StateWf { s with rTag := (s.entry k).tag } := by
  obtain ⟨-, -, -, tag, -⟩ := wf.entry_fits k
  exact { wf with foundTagFits := tag }

theorem StateWf.resetState : StateWf s.resetState := { resetWith_wf wf.config with }

section
variable {slot : Option Nat} {n : Nat} (inside : ∀ k, slot = some k → k < s.cfg.camDepth)
include inside

theorem StateWf.afterLook : StateWf (s.afterLook slot n) := by
  cases slot with
  | none => exact { wf with status := List.mem_cons_self }
  | some k =>
    have reported := (wf.setFoundTag k).setSlot (inside k rfl)
    exact { reported with status := List.mem_cons_self }

theorem StateWf.afterTake : StateWf (s.afterTake slot n) := by
  have looked := wf.afterLook inside (n := n)
  cases slot with
  | none => exact looked
  | some k => exact looked.clearSlot k

end

theorem StateWf.camIns : StateWf (effect .camIns s) := by
  rw [effect]
  cases free : s.firstFree with
  | none => exact wf
  | some k => exact (wf.setEntry wf.newEntry_fits).setSlot (firstFree_eq_some.mp free).1

theorem StateWf.deliver {cw : ControlWord} {payload : List Byte} (route : Route)
    (fits : payload.length ≤ s.cfg.payCap) : StateWf (s.deliver cw payload route) :=
  ((wf.setControlWord.setBuf (b := .pay) fits).setFlag).setRoute route

theorem StateWf.received {cls : CodeClass} {cw : ControlWord} : StateWf (s.received cls cw) := by
  unfold State.received
  split_ifs
  · exact (wf.deliver _ (wf.slice_fits_pay _ _ (Nat.sub_le _ _))).setBlockHeader
  · exact (wf.deliver _ (wf.slice_fits_pay _ _ le_rfl)).setResetByte
  · exact wf.deliver _ (wf.slice_fits_pay _ _ le_rfl)

/-- Short sequences fit both buffers, whose capacities are at least 255. -/
theorem StateWf.setBuf_short {b : Buf} {bytes : List Byte} (short : bytes.length ≤ 6 := by simp) :
    StateWf (s.setBuf b bytes) := by
  obtain ⟨wireCap, payCap, -⟩ := wf.config
  refine wf.setBuf (short.trans ?_)
  cases b with
  | wire => exact le_trans (by decide) wireCap
  | pay => exact le_trans (by decide) payCap

/-! ### Commands, transactions, steps -/

theorem effect_wf (i : Instr) : StateWf (effect i s) := by
  cases i with
  | nop => exact wf
  | srst => exact wf.resetState
  | encCw | encBh | encRstp imm8 | encBackp => exact wf.setBuf_short
  | encFrame =>
    exact wf.setBuf (wf.datagram_fits_wire rfl ((slice_length_le _ _ _).trans (toNat_le_plenMax s.fPlen)))
  | encBframe =>
    have fits : (bhPack s.blockHeader ++ slice s.mem.pay 0 (s.fPlen.toNat - 6)).length ≤ plenMax := by
      have fragment := slice_length_le s.mem.pay 0 (s.fPlen.toNat - 6)
      have byteSized := s.fPlen.isLt
      rw [List.length_append, bhPack_length, plenMax]
      omega
    rw [effect, List.append_assoc]
    exact wf.setBuf (wf.datagram_fits_wire rfl fits)
  | decCw => exact wf.setControlWord.setFlag
  | decFrame => exact (wf.setControlWord.setBuf (b := .pay) (wf.slice_fits_pay _ _ le_rfl)).setFlag
  | decBh => exact wf.setBlockHeader
  | decBframe =>
    exact (wf.setControlWord.setBlockHeader.setBuf (b := .pay) (wf.slice_fits_pay _ _ (Nat.sub_le _ _))).setFlag
  | crcClr | crcUpdb imm8 | crcUpdp | crcGet | decBackp | tokAlloc => exact { wf with }
  | crcChk => exact wf.setFlag
  | decRstp => exact wf.setResetByte
  | camIns => exact wf.camIns
  | camLook => exact wf.afterLook fun _ answers => (answeringSlot_eq_some answers).1
  | camTake => exact wf.afterTake fun _ answers => (answeringSlot_eq_some answers).1
  | camDel imm8 => exact wf.setFlag.clearSlot imm8.toNat
  | decAuto | codeCon bf rid token plen | codeNon bf rid token plen | codeAck bf rid token plen
  | codeRst bf rid token plen | codeBack bf rid token plen => exact wf.received

/-- The status of every outcome is listed, whatever the outcome (60_exceptions R213). -/
theorem exec_wf {i : Instr} {t : State} (ran : exec i s = .next t) : StateWf t := by
  obtain ⟨u, same, listed⟩ := exec_endsListed i s
  cases same.symm.trans ran
  rcases exec_cases ran with ⟨st, cause, -, rfl⟩ | rfl
  · exact wf.setStatus listed
  · exact (effect_wf wf i).setStatus

theorem writeReg_wf {r : Reg} {v : Nat} (fits : v < 2 ^ regWidth s.cfg r) : StateWf (s.writeReg r v) := by
  cases r with
  | kProto => exact { wf with protoFits := fits }
  | kPipe => exact { wf with pipeFits := fits }
  | kAddr => exact { wf with addrFits := fits }
  | kTag => exact { wf with keyTagFits := fits }
  | _ => exact { wf with }

theorem carryOut_wf {tr : Transaction} {t : State} (ran : carryOut tr s = .next t) : StateWf t := by
  cases tr with
  | regRead n =>
    obtain ⟨-, -, -, rfl⟩ := portRegRead_eq_next.mp ran
    exact { wf with }
  | regWrite n v =>
    obtain ⟨r, -, -, -, fits, rfl⟩ := portRegWrite_eq_next.mp ran
    exact writeReg_wf wf fits
  | load b bytes =>
    obtain ⟨fits, rfl⟩ := portLoad_eq_next.mp ran
    exact wf.setBuf fits
  | read b =>
    cases portRead_eq_next.mp ran
    exact { wf with }
  | reset =>
    cases portReset_eq_next.mp ran
    exact wf.resetState
  | cmd w =>
    rw [carryOut] at ran
    split at ran
    · exact exec_wf wf ran
    · cases reservedEncoding_eq_next.mp ran
      exact wf.setStatus

theorem step_wf {t : State} (ran : step s = .next t) : StateWf t := by
  rcases step_cases ran with ⟨-, held⟩ | ⟨tr, rest, -, carried⟩
  · cases held
    exact wf
  · exact carryOut_wf (s := { s with pending := rest, reply := .none }) { wf with } carried

end

end Sys2Proof

namespace Sys2Proof.Proofs

open Machine

/-- Settles O59: the default configuration is legal. -/
theorem resetIsWellFormed : Obligations.ResetIsWellFormed := by
  have legal : Config.default.Wf := by decide
  exact ⟨fun _ => resetWith_wf, resetWith_wf legal⟩

/-- Settles O60: every transaction keeps the invariant. -/
theorem everyStepKeepsTheInvariant : Obligations.EveryStepKeepsTheInvariant := fun _ _ wf => step_wf wf

end Sys2Proof.Proofs
end
